-- ==== Sys2Proof/Word.lean ====
section
/-! DEFINITION. The widths of the block's values (10_state.md rule R20, 30_encoding.md rule R70) and the plain
wrapping arithmetic on Millis values (00_scope.md rule R10). Bit 0 of every value is its least significant bit
(00_scope.md rule R9). -/

namespace Sys2Proof

/-- A 32-bit unsigned wrapping count of milliseconds (00_scope.md rules R7 and R13). -/
abbrev Millis := BitVec 32

/-- An 11-bit mask over the actuators, in the bit layout of 10_state.md rule R31. -/
abbrev ActMask := BitVec 11

/-- The 5-bit code held in the STATE register (10_state.md rule R27). -/
abbrev StateCode := BitVec 5

/-- The 3-bit code held in the FAULT register (60_exceptions.md rule R200). -/
abbrev FaultCode := BitVec 3

/-- One 8-bit command word of the command port (30_encoding.md rule R70). -/
abbrev Cmd := BitVec 8

/-- `a +w b` of 00_scope.md rule R10: the sum modulo 2^32. -/
abbrev addW (a b : Millis) : Millis := a + b

/-- `a -w b` of 00_scope.md rule R10: the difference modulo 2^32. -/
abbrev subW (a b : Millis) : Millis := a - b

/-- `a >= b` of 00_scope.md rule R10: the unsigned comparison of two 32-bit numbers. -/
abbrev geW (a b : Millis) : Bool := BitVec.ule b a

end Sys2Proof
end

