-- ==== Sys2Proof/Syntax.lean ====
section
/-! DEFINITION. The block's operations (00_scope.md rule R3) with the reserved operation code, one constructor per row of
spec/opcode_table.json (30_encoding.md rule R74). -/

namespace Sys2Proof

/-- One operation of the block. The only operands are POLL's two pin levels (10_state.md rule R21); the bits that NOP and
the reserved operation code ignore are no operands (30_encoding.md rules R73, R75 and R79). -/
inductive Instr where
  /-- NOP, OP = 000, bits 7:3 ignored (40_clock.md rule R105). -/
  | nop
  /-- CLK_INIT, word 0x01 (40_clock.md rule R101). -/
  | clkInit
  /-- TICK_EN, word 0x02 (40_clock.md rule R102). -/
  | tickEn
  /-- CLK_TICK, word 0x03 or the tick strobe (40_clock.md rule R103, 30_encoding.md rule R77). -/
  | clkTick
  /-- CLK_NOW, word 0x04 (40_clock.md rule R104). -/
  | clkNow
  /-- CTRL_INIT, word 0x05 (42_controller.md rule R161). -/
  | ctrlInit
  /-- POLL, word 000PS110, with the raw start-pin level S and stop-pin level P (30_encoding.md rule R72). -/
  | poll (startPin stopPin : Bool)
  /-- The reserved code OP = 111, bits 7:3 ignored (30_encoding.md rule R75). -/
  | reservedOp
  deriving DecidableEq, Repr

end Sys2Proof
end

