-- ==== Sys2Proof/Decode.lean ====
section
/-! DEFINITION. The decoder of command words and their encoder (30_encoding.md rules R70 to R75 and R78). The decoder is
total on all 256 words; the one kind of word that is no row of the opcode table, a word with a stray reserved bit, is
rejected by name. -/

namespace Sys2Proof

/-- What a command word decodes to. -/
inductive Decoded where
  /-- An operation of the opcode table. -/
  | op (i : Instr)
  /-- RESERVED_BITS: a non-zero bit that 30_encoding.md rule R73 reserves. -/
  | reservedBits
  deriving DecidableEq, Repr

/-- OP = w[2:0] (30_encoding.md rule R71). -/
def opField (w : Cmd) : BitVec 3 := w.extractLsb' 0 3

/-- S = w[3], the start-pin level (30_encoding.md rule R72). -/
def startPinField (w : Cmd) : Bool := w.getLsbD 3

/-- P = w[4], the stop-pin level (30_encoding.md rule R72). -/
def stopPinField (w : Cmd) : Bool := w.getLsbD 4

/-- RSV = w[7:5] (30_encoding.md rule R70). -/
def rsvField (w : Cmd) : BitVec 3 := w.extractLsb' 5 3

/-- A fixed-word operation: w[7:3] must be 00000 (30_encoding.md rule R78). -/
def decodeFixed (w : Cmd) (i : Instr) : Decoded :=
  if w.extractLsb' 3 5 = 0#5 then .op i else .reservedBits

/-- decode(w) of 30_encoding.md rule R78. -/
def decode (w : Cmd) : Decoded :=
  match (opField w).toNat with
  | 0 => .op .nop
  | 1 => decodeFixed w .clkInit
  | 2 => decodeFixed w .tickEn
  | 3 => decodeFixed w .clkTick
  | 4 => decodeFixed w .clkNow
  | 5 => decodeFixed w .ctrlInit
  | 6 => if rsvField w = 0#3 then .op (.poll (startPinField w) (stopPinField w)) else .reservedBits
  | _ => .op .reservedOp

/-- The command word of an operation (30_encoding.md rules R74 and R79). The bits that NOP and OP = 111 ignore are written 0. -/
def encode : Instr → Cmd
  | .nop => 0x00#8
  | .clkInit => 0x01#8
  | .tickEn => 0x02#8
  | .clkTick => 0x03#8
  | .clkNow => 0x04#8
  | .ctrlInit => 0x05#8
  | .poll startPin stopPin => 0b000#3 ++ BitVec.ofBool stopPin ++ BitVec.ofBool startPin ++ 0b110#3
  | .reservedOp => 0x07#8

/-- The instruction the decoder reads from bits numbered as spec/opcode_table.json numbers them: one 8-bit word, whose bits
above nbits are 0. -/
def decodeTableWord (nbits w : Nat) : Option Instr :=
  match decode (BitVec.ofNat 8 (w % 2 ^ nbits)) with
  | .op i => some i
  | .reservedBits => none

end Sys2Proof
end

