-- ==== Sys2Proof/Config.lean ====
section
/-! DEFINITION. What is fixed for the life of the block and what the spec leaves open: the names that index the
parameter ROMs, the parameter record (00_scope.md rule R7, 10_state.md rules R35 to R38), the configuration step that
refuses an ill-formed parameter set (00_scope.md rule R8, 93_implementation_defined.md section 1), and the opaque
constants that stand for every value nothing may be assumed about. -/

namespace Sys2Proof

/-- The closed enumeration of the 25 phases, in the order of their codes (10_state.md rule R27). -/
inductive CycleState where
  | initialDraining
  | initialIdling
  | initialLocking
  | initialUnlocking
  | initialSetupSeparatorOpening
  | initialSetupWaterPumping
  | initialSetupSeparatorClosing
  | soakWaterPumping
  | soakWaterHeating
  | soakWaterHeatedMixing
  | soakWaterMixing
  | soakWaterDraining
  | rinseWaterPumping
  | rinseWaterDraining
  | separatorOpening
  | separatorHolding
  | separatorClosing
  | blending
  | pulpDraining
  | setupSeparatorOpening
  | setupWaterPumping
  | setupSeparatorClosing
  | idling
  | locking
  | unlocking
  deriving DecidableEq, Repr

/-- The ten names of the duration table, in the order of their indices (10_state.md rule R35). -/
inductive DurName where
  | draining
  | locking
  | separatorTransition
  | waterPumping
  | heating
  | heatedMixing
  | mixing
  | rinsing
  | separatorHolding
  | blending
  deriving DecidableEq, Repr

/-- The eleven actuators, in the order of their bits in OUT (10_state.md rule R31). -/
inductive Actuator where
  | lowerDrainPump
  | upperDrainPump
  | blender
  | heater
  | mixer
  | separatorHatchEnable
  | separatorHatchDirection
  | inputHatchLockEnable
  | inputHatchLockDirection
  | waterPump
  | readyIndicator
  deriving DecidableEq, Repr

/-- The parameter ROMs and configuration inputs (10_state.md rules R35, R37 and R38). The stop polarity is no field: it is
fixed, active low. A record has exactly one value for each duration name, as 00_scope.md rule R8 asks. -/
structure Params where
  /-- DUR: the ten durations, by index. -/
  durations : Vector Millis 10
  /-- TICK_NUM: the tick period is TICK_NUM / TICK_DEN ms (40_clock.md rule R100). -/
  tickNum : Nat
  /-- TICK_DEN. -/
  tickDen : Nat
  /-- ENTRY_MASK, by STATE code. -/
  entryMask : Vector ActMask 25
  /-- EXIT_MASK, by STATE code. -/
  exitMask : Vector ActMask 25
  /-- START_ACTIVE_LEVEL: the start-pin level that means "starting". -/
  startActiveLevel : Bool
  /-- SOAK_HEAT_PATH: normatively 0 (41_state_machine.md rule R137). -/
  soakHeatPath : Bool
  deriving DecidableEq, Repr

namespace Config

/-! ## Open parameters of the machine that State.reset describes

Each is an uninterpreted constant (00_scope.md rule R7: "Every other value is OPEN, and a model must not assume it"). -/

/-- The ten durations, DUR_DRAINING to DUR_BLENDING (92_eei_decisions.md D7). -/
opaque durations : Vector Millis 10

/-- TICK_NUM less one, so that TICK_NUM is some positive integer and no particular one (92_eei_decisions.md D12). -/
opaque tickNumLessOne : Nat

/-- TICK_DEN less one, so that TICK_DEN is some positive integer and no particular one (92_eei_decisions.md D12). -/
opaque tickDenLessOne : Nat

/-- The one mask table that, under the normative property ACTIONS_SYMMETRIC, both ENTRY_MASK and EXIT_MASK are
(10_state.md rule R37, 92_eei_decisions.md D8). -/
opaque actionMask : Vector ActMask 25

/-- START_ACTIVE_LEVEL (92_eei_decisions.md D11). -/
opaque startActiveLevel : Bool

/-- The parameters at State.reset: every OPEN value an uninterpreted constant, ACTIONS_SYMMETRIC and SOAK_HEAT_PATH at their
normative values (00_scope.md rule R7). Other states may hold any parameters. DESIGN CHOICE, unsafe for a claim about
State.reset alone: notes/assumptions 4. -/
def params : Params where
  durations := durations
  tickNum := tickNumLessOne + 1
  tickDen := tickDenLessOne + 1
  entryMask := actionMask
  exitMask := actionMask
  startActiveLevel := startActiveLevel
  soakHeatPath := false

/-! ## Free draws

Each is an uninterpreted function of the number of the draw (State.draws). -/

/-- MILLIS at power-on: "unspecified (draw)" (10_state.md rule R41). -/
opaque drawMillis : Nat → Millis

/-- FRAC at power-on: "unspecified (draw)" (10_state.md rule R41). -/
opaque drawFrac : Nat → Nat

/-- STATE at power-on: "unspecified (draw)" (10_state.md rule R41). -/
opaque drawState : Nat → StateCode

/-- LAST at power-on: "unspecified (draw)" (10_state.md rule R41). -/
opaque drawLast : Nat → Millis

/-- STOPPING at power-on: "unspecified (draw)" (10_state.md rule R41). -/
opaque drawStopping : Nat → Bool

/-- The level of the resp port while it carries no response: "any value" (93_implementation_defined.md section 2). -/
opaque drawResp : Nat → BitVec 32

/-! ## Configuration, before power-on -/

/-- A parameter set as it is offered to the block, its duration table still a list of named entries. -/
structure Raw where
  durations : List (DurName × Millis)
  tickNum : Nat
  tickDen : Nat
  entryMask : Vector ActMask 25
  exitMask : Vector ActMask 25
  startActiveLevel : Bool
  soakHeatPath : Bool
  deriving DecidableEq, Repr

/-- Why a parameter set is refused at configuration time (00_scope.md rule R8, 93_implementation_defined.md section 1). No
operation raises one: the block with that configuration does not exist. Refusing is safe. -/
inductive Refused where
  /-- The duration table has no entry for this name. -/
  | missingDuration (d : DurName)
  /-- The duration table has more than one entry for this name: a name "has exactly one value". -/
  | repeatedDuration (d : DurName)
  /-- TICK_NUM = 0. -/
  | tickNumZero
  /-- TICK_DEN = 0. -/
  | tickDenZero
  deriving DecidableEq, Repr

/-- What configuration answers. -/
inductive Configured where
  | params (c : Params)
  | refused (r : Refused)
  deriving DecidableEq, Repr

end Config

end Sys2Proof
end

