-- ==== Sys2Proof/Machine/State.lean ====
section
/-! DEFINITION. The machine's state (10_state.md rules R20 to R41), the block's faults, and the state at power-on. -/

namespace Sys2Proof.Machine

/-- One input event. The operations of the two agents and the por input arrive in one total order, chosen freely by the
environment (20_memory.md rule R57, 60_exceptions.md rules R211 and R213). -/
inductive Event where
  /-- One strobe of the tick input: CLK_TICK issued by the tick agent (30_encoding.md rule R77). -/
  | tickStrobe
  /-- One command word on the cmd port, issued by the command agent (30_encoding.md rule R70). -/
  | command (w : Cmd)
  /-- The por input: power-on reset (70_reset_and_hazards.md rule R240). -/
  | powerOnReset
  deriving DecidableEq, Repr

/-- The block's seven faults (60_exceptions.md rule R200), all raised by the fault primitive raiseFault. Raising one is an
EFFECT the spec describes (FAULT is written and nothing else, rule R201), so the machine goes on to a next state whose FAULT
register holds the code; Safety.judge reads that state back as a fault outcome (rule R202). No step answers the
Host.Outcome.fault of one. DESIGN CHOICE: notes/assumptions 1. -/
inductive Fault where
  /-- CLOCK_UNINIT: TICK_EN, CLK_NOW, CTRL_INIT or POLL while CLK_RDY = 0. Safe: the spec's own outcome. -/
  | clockUninit
  /-- CLOCK_REINIT: CLK_INIT while CLK_RDY = 1. Safe: the spec's own outcome. -/
  | clockReinit
  /-- CTRL_UNINIT: POLL while CTL_RDY = 0. Safe: the spec's own outcome. -/
  | ctrlUninit
  /-- CTRL_REINIT: CTRL_INIT while CTL_RDY = 1. Safe: the spec's own outcome. -/
  | ctrlReinit
  /-- RESERVED_OP: a command word with OP = 111, raised by decode. Safe: the spec's own outcome. -/
  | reservedOp
  /-- RESERVED_BITS: a command word with a stray reserved bit, raised by decode. Safe: the spec's own outcome. -/
  | reservedBits
  /-- INVALID_STATE: POLL finding STATE above 24. Safe: the spec's own outcome. -/
  | invalidState
  deriving DecidableEq, Repr

/-- Refusals of the model. No operation of this block is refused: every row of the opcode table has its meaning. -/
inductive Refusal where
  /-- Raised only by an arm of exec for an instruction without a meaning; no arm does. Safe. -/
  | notModelled (mnemonic : String)
  deriving DecidableEq, Repr

/-- The machine's state: the ten registers of 10_state.md rule R20, the parameter ROMs and configuration inputs (rules R35
to R38), and three fields of the model's own: the response of the latest operation, the input events still to come, and the
number of the next free draw. -/
structure State where
  /-- MILLIS, 32 bits (rule R23). -/
  millis : Millis
  /-- FRAC, in units of 1/TICK_DEN ms (rule R24); an unbounded natural, as 00_scope.md rule R7 allows. -/
  frac : Nat
  /-- TICK_EN, 1 bit (rule R25). -/
  tickEn : Bool
  /-- CLK_RDY, 1 bit (rule R26). -/
  clkRdy : Bool
  /-- CTL_RDY, 1 bit (rule R30). -/
  ctlRdy : Bool
  /-- STATE, 5 bits; codes 25 to 31 name no state (rule R27). -/
  state : StateCode
  /-- LAST, 32 bits (rule R28). -/
  last : Millis
  /-- STOPPING, 1 bit (rule R29). -/
  stopping : Bool
  /-- OUT, 11 bits (rule R31). -/
  out : ActMask
  /-- FAULT, 3 bits (rule R33). -/
  fault : FaultCode
  /-- The parameter ROMs and configuration inputs (rules R35 to R38). No operation writes them. -/
  params : Params
  /-- The model's own: what the latest operation put on the resp port, if it responded (30_encoding.md rule R76). DESIGN CHOICE,
  safe: notes/assumptions 6. -/
  resp : Option (BitVec 32)
  /-- The model's own: the input events still to come, in the total order of 20_memory.md rule R57, next first. DESIGN CHOICE,
  safe: notes/assumptions 2. -/
  pending : List Event
  /-- The model's own: the number of the next free draw. DESIGN CHOICE, unsafe for a claim that uses its value:
  notes/assumptions 8. -/
  draws : Nat
  deriving DecidableEq, Repr

/-- The power-on state of 10_state.md rule R41 and 70_reset_and_hazards.md rule R240, with the parameters c, the n-th draw of
every unspecified register, and the events still to come. DESIGN CHOICE, unsafe (one value per draw number):
notes/assumptions 5. -/
def State.powerOn (c : Params) (n : Nat) (pending : List Event) : State where
  millis := Config.drawMillis n
  frac := Config.drawFrac n
  tickEn := false
  clkRdy := false
  ctlRdy := false
  state := Config.drawState n
  last := Config.drawLast n
  stopping := Config.drawStopping n
  out := 0#11
  fault := 0#3
  params := c
  resp := none
  pending := pending
  draws := n

/-- The machine right after power-on reset, with no input event yet (notes/assumptions 2, 4 and 5). -/
def State.reset : State := State.powerOn Config.params 0 []

/-- The three outcomes of an operation of this machine. -/
abbrev Result := Host.Outcome State Fault Refusal

end Sys2Proof.Machine
end

