-- ==== Sys2Proof/WellFormed.lean ====
section
/-! DEFINITION. Well-formedness: of an instruction, and of the parameters a configured block holds. -/

namespace Sys2Proof

/-- Well-formed instructions. Every term of Instr is one: the only operands are POLL's two 1-bit pin levels, and their type
admits exactly the values of 30_encoding.md rule R72. (Words with stray bits are no instruction: the decoder rejects them.) -/
def Instr.wf : Instr → Bool
  | .nop => true
  | .clkInit => true
  | .tickEn => true
  | .clkTick => true
  | .clkNow => true
  | .ctrlInit => true
  | .poll _ _ => true
  | .reservedOp => true

/-- Well-formed parameters: TICK_NUM and TICK_DEN are positive (40_clock.md rule R100; 93_implementation_defined.md section 1:
"TICK_DEN = 0 or TICK_NUM = 0 is refused"). Widths and table lengths are the types'. -/
def Params.wf (c : Params) : Bool :=
  decide (0 < c.tickNum) && decide (0 < c.tickDen)

/-- ACTIONS_SYMMETRIC: ENTRY_MASK(s) = EXIT_MASK(s) for every s (10_state.md rule R37). Normative, and no part of wf: an
asymmetric setting is admitted. -/
def Params.symmetric (c : Params) : Bool :=
  decide (c.entryMask = c.exitMask)

end Sys2Proof
end

