-- ==== Sys2Proof/Machine/Operands.lean ====
section
/-! DEFINITION. What the operations read: the state codes, the parameter ROMs, the sampled pins, the bits of OUT, and the
configuration step that builds the ROMs. -/

namespace Sys2Proof

/-- The code of a state (10_state.md rule R27). -/
def CycleState.code : CycleState → StateCode
  | .initialDraining => 0#5
  | .initialIdling => 1#5
  | .initialLocking => 2#5
  | .initialUnlocking => 3#5
  | .initialSetupSeparatorOpening => 4#5
  | .initialSetupWaterPumping => 5#5
  | .initialSetupSeparatorClosing => 6#5
  | .soakWaterPumping => 7#5
  | .soakWaterHeating => 8#5
  | .soakWaterHeatedMixing => 9#5
  | .soakWaterMixing => 10#5
  | .soakWaterDraining => 11#5
  | .rinseWaterPumping => 12#5
  | .rinseWaterDraining => 13#5
  | .separatorOpening => 14#5
  | .separatorHolding => 15#5
  | .separatorClosing => 16#5
  | .blending => 17#5
  | .pulpDraining => 18#5
  | .setupSeparatorOpening => 19#5
  | .setupWaterPumping => 20#5
  | .setupSeparatorClosing => 21#5
  | .idling => 22#5
  | .locking => 23#5
  | .unlocking => 24#5

/-- The 25 states in the order of their codes (10_state.md rule R27). -/
def CycleState.all : List CycleState :=
  [.initialDraining, .initialIdling, .initialLocking, .initialUnlocking, .initialSetupSeparatorOpening,
   .initialSetupWaterPumping, .initialSetupSeparatorClosing, .soakWaterPumping, .soakWaterHeating,
   .soakWaterHeatedMixing, .soakWaterMixing, .soakWaterDraining, .rinseWaterPumping, .rinseWaterDraining,
   .separatorOpening, .separatorHolding, .separatorClosing, .blending, .pulpDraining, .setupSeparatorOpening,
   .setupWaterPumping, .setupSeparatorClosing, .idling, .locking, .unlocking]

/-- The state a code names, if it names one; codes 25 to 31 name none (10_state.md rule R27). -/
def CycleState.ofCode (k : StateCode) : Option CycleState := CycleState.all[k.toNat]?

/-- is_idle(s): s is Idling or InitialIdling (41_state_machine.md rule R122). -/
def CycleState.isIdle : CycleState → Bool
  | .initialIdling => true
  | .idling => true
  | _ => false

/-- The index of a duration name in DUR (10_state.md rule R35). -/
def DurName.index : DurName → Fin 10
  | .draining => 0
  | .locking => 1
  | .separatorTransition => 2
  | .waterPumping => 3
  | .heating => 4
  | .heatedMixing => 5
  | .mixing => 6
  | .rinsing => 7
  | .separatorHolding => 8
  | .blending => 9

/-- The ten duration names in the order of their indices. -/
def DurName.all : List DurName :=
  [.draining, .locking, .separatorTransition, .waterPumping, .heating, .heatedMixing, .mixing, .rinsing,
   .separatorHolding, .blending]

/-- The bit of OUT that drives an actuator (10_state.md rule R31). -/
def Actuator.bit : Actuator → Fin 11
  | .lowerDrainPump => 0
  | .upperDrainPump => 1
  | .blender => 2
  | .heater => 3
  | .mixer => 4
  | .separatorHatchEnable => 5
  | .separatorHatchDirection => 6
  | .inputHatchLockEnable => 7
  | .inputHatchLockDirection => 8
  | .waterPump => 9
  | .readyIndicator => 10

/-- The mask that lists one actuator alone (10_state.md rule R31, column "Mask"). -/
def Actuator.mask (a : Actuator) : ActMask := BitVec.twoPow 11 a.bit

/-- The position of a state's masks in the two mask tables: its code (10_state.md rule R37). -/
def CycleState.index : CycleState → Fin 25
  | .initialDraining => 0
  | .initialIdling => 1
  | .initialLocking => 2
  | .initialUnlocking => 3
  | .initialSetupSeparatorOpening => 4
  | .initialSetupWaterPumping => 5
  | .initialSetupSeparatorClosing => 6
  | .soakWaterPumping => 7
  | .soakWaterHeating => 8
  | .soakWaterHeatedMixing => 9
  | .soakWaterMixing => 10
  | .soakWaterDraining => 11
  | .rinseWaterPumping => 12
  | .rinseWaterDraining => 13
  | .separatorOpening => 14
  | .separatorHolding => 15
  | .separatorClosing => 16
  | .blending => 17
  | .pulpDraining => 18
  | .setupSeparatorOpening => 19
  | .setupWaterPumping => 20
  | .setupSeparatorClosing => 21
  | .idling => 22
  | .locking => 23
  | .unlocking => 24

/-- DUR entry d (10_state.md rule R35). -/
def Params.dur (c : Params) (d : DurName) : Millis := c.durations.get d.index

/-- ENTRY_MASK(s) (10_state.md rule R37). -/
def Params.entryMaskOf (c : Params) (s : CycleState) : ActMask := c.entryMask.get s.index

/-- EXIT_MASK(s) (10_state.md rule R37). -/
def Params.exitMaskOf (c : Params) (s : CycleState) : ActMask := c.exitMask.get s.index

namespace Machine

/-- starting = (S = START_ACTIVE_LEVEL) (42_controller.md rule R164). -/
def starting (c : Params) (startPin : Bool) : Bool := startPin == c.startActiveLevel

/-- stop_active = (P = 0): the stop input is active low (42_controller.md rule R164). -/
def stopActive (stopPin : Bool) : Bool := !stopPin

end Machine

namespace Config

/-- The values a raw table lists for a name. -/
def Raw.entries (raw : Raw) (d : DurName) : List Millis :=
  (raw.durations.filter (fun e => e.1 == d)).map Prod.snd

/-- Why a raw table cannot answer for a name, if it cannot (00_scope.md rule R8). -/
def Raw.durationRefusal (raw : Raw) (d : DurName) : Option Refused :=
  match raw.entries d with
  | [] => some (.missingDuration d)
  | [_] => none
  | _ => some (.repeatedDuration d)

/-- The value a raw table gives a name. Called only for a table that durationRefusal accepts, whose one value it is. -/
def Raw.duration (raw : Raw) (d : DurName) : Millis := (raw.entries d).headD 0

/-- Why a raw parameter set is refused, if it is (00_scope.md rule R8, 93_implementation_defined.md section 1). -/
def Raw.refusal (raw : Raw) : Option Refused :=
  if raw.tickNum = 0 then some .tickNumZero
  else if raw.tickDen = 0 then some .tickDenZero
  else DurName.all.findSome? raw.durationRefusal

/-- The configuration step, before power-on (70_reset_and_hazards.md rule R243): the parameters, or the reason they are
refused. -/
def configure (raw : Raw) : Configured :=
  match raw.refusal with
  | some r => .refused r
  | none =>
    .params
      { durations :=
          #v[raw.duration .draining, raw.duration .locking, raw.duration .separatorTransition,
             raw.duration .waterPumping, raw.duration .heating, raw.duration .heatedMixing, raw.duration .mixing,
             raw.duration .rinsing, raw.duration .separatorHolding, raw.duration .blending]
        tickNum := raw.tickNum
        tickDen := raw.tickDen
        entryMask := raw.entryMask
        exitMask := raw.exitMask
        startActiveLevel := raw.startActiveLevel
        soakHeatPath := raw.soakHeatPath }

end Config

end Sys2Proof
end

