-- ==== Sys2Proof/Machine/Flags.lean ====
section
/-! DEFINITION. The block's two flags (10_state.md rule R34): the stop latch STOPPING and the response TRANSITIONED. -/

namespace Sys2Proof.Machine

/-- sp = STOPPING or stop_active, before NEXT is evaluated: a monotone OR (42_controller.md rule R165). -/
def latchStop (stopping active : Bool) : Bool := stopping || active

/-- STOPPING after a transition to n: cleared iff n is an idle state (42_controller.md rule R168). -/
def latchOnArrival (n : CycleState) (sp : Bool) : Bool := if n.isIdle then false else sp

/-- The response of a POLL on the 32-bit resp port: TRANSITIONED in bit 0, bits 31:1 = 0 (42_controller.md rule R170,
60_exceptions.md rule R211). -/
def transitionedResp (transitioned : Bool) : BitVec 32 := (BitVec.ofBool transitioned).setWidth 32

end Sys2Proof.Machine
end

