-- ==== Sys2Proof/Machine/Ops.lean ====
section
/-! DEFINITION. The operations that the meanings share: the fault primitive, the halt, the response channel, the clock's
arithmetic and the action masks. There is no return from a fault beside the fault primitive, because the block has none
(60_exceptions.md rule R207): only power-on reset (State.powerOn) clears FAULT. -/

namespace Sys2Proof.Machine

/-- The code of a fault in FAULT (60_exceptions.md rule R200). -/
def Fault.code : Fault → FaultCode
  | .clockUninit => 1#3
  | .clockReinit => 2#3
  | .ctrlUninit => 3#3
  | .ctrlReinit => 4#3
  | .reservedOp => 5#3
  | .reservedBits => 6#3
  | .invalidState => 7#3

/-- The fault a code in FAULT records; code 0 records none (60_exceptions.md rule R200). -/
def Fault.ofCode (k : FaultCode) : Option Fault :=
  match k.toNat with
  | 1 => some .clockUninit
  | 2 => some .clockReinit
  | 3 => some .ctrlUninit
  | 4 => some .ctrlReinit
  | 5 => some .reservedOp
  | 6 => some .reservedBits
  | 7 => some .invalidState
  | _ => none

/-- The operation gives no response (30_encoding.md rule R76). -/
def silent (s : State) : State := { s with resp := none }

/-- respond(v): v stands on the resp port for this operation (00_scope.md rule R11, 30_encoding.md rule R76). -/
def respond (v : BitVec 32) (s : State) : State := { s with resp := some v }

/-- raise Fault(f): FAULT <- f's code, no other write and no response (60_exceptions.md rule R201). A next state; DESIGN CHOICE,
unsafe for a claim that takes a next state for a fault-free one: notes/assumptions 1. -/
def raiseFault (f : Fault) (s : State) : State := { s with fault := f.code, resp := none }

/-- One atomic operation: its body, unless the block is halted; once FAULT is not 0 every operation has no effect and gives
no response (00_scope.md rule R12, 60_exceptions.md rule R202). -/
def operation (s : State) (body : State → State) : Result :=
  .next (if s.fault = 0#3 then body s else silent s)

/-- elapsed(now, ref) = now -w ref (40_clock.md rule R106). -/
def elapsed (now ref : Millis) : Millis := subW now ref

/-- A dwell guard: e >= D, unsigned and inclusive (40_clock.md rule R107, 41_state_machine.md rule R125). -/
def dwellReached (e d : Millis) : Bool := geW e d

/-- t = FRAC + TICK_NUM, an unbounded natural (40_clock.md rule R103). -/
def tickTotal (c : Params) (frac : Nat) : Nat := frac + c.tickNum

/-- MILLIS after an accepted tick: MILLIS +w ((t div TICK_DEN) mod 2^32) (40_clock.md rule R103). -/
def tickMillis (c : Params) (millis : Millis) (frac : Nat) : Millis :=
  addW millis (BitVec.ofNat 32 (tickTotal c frac / c.tickDen))

/-- FRAC after an accepted tick: t mod TICK_DEN (40_clock.md rule R103). -/
def tickFrac (c : Params) (frac : Nat) : Nat := tickTotal c frac % c.tickDen

/-- The entry action of s on OUT (42_controller.md rules R161 and R167). -/
def entryAction (c : Params) (s : CycleState) (out : ActMask) : ActMask := out ^^^ c.entryMaskOf s

/-- The exit action of s on OUT (42_controller.md rule R167). -/
def exitAction (c : Params) (s : CycleState) (out : ActMask) : ActMask := out ^^^ c.exitMaskOf s

/-- OUT after a transition, one write: OUT xor EXIT_MASK(old) xor ENTRY_MASK(n) (42_controller.md rule R167). -/
def transitionOut (c : Params) (old n : CycleState) (out : ActMask) : ActMask :=
  entryAction c n (exitAction c old out)

/-- The explicit form "assert on entry, deassert on exit": (OUT and not EXIT_MASK(old)) or ENTRY_MASK(n). Not the block's
own form; 42_controller.md rule R171 compares the two. -/
def transitionOutExplicit (c : Params) (old n : CycleState) (out : ActMask) : ActMask :=
  (out &&& ~~~ c.exitMaskOf old) ||| c.entryMaskOf n

end Sys2Proof.Machine
end

