-- ==== Sys2Proof/Machine/Clock.lean ====
section
/-! DEFINITION. The meanings of NOP and of the Monotonic Clock's operations (40_clock.md rules R101 to R105). -/

namespace Sys2Proof.Machine

/-- The writes of CLK_INIT (40_clock.md rule R101). -/
def startClock (s : State) : State :=
  { s with millis := 0#32, frac := 0, clkRdy := true, resp := none }

/-- The write of TICK_EN (40_clock.md rule R102). -/
def enableTick (s : State) : State :=
  { s with tickEn := true, resp := none }

/-- The writes of an accepted CLK_TICK (40_clock.md rule R103). -/
def advanceClock (s : State) : State :=
  { s with millis := tickMillis s.params s.millis s.frac, frac := tickFrac s.params s.frac, resp := none }

/-- NOP does nothing (40_clock.md rule R105). -/
def execNop (s : State) : Result :=
  operation s silent

/-- CLK_INIT starts the clock at zero (40_clock.md rule R101). -/
def execClkInit (s : State) : Result :=
  operation s fun s => if s.clkRdy then raiseFault .clockReinit s else startClock s

/-- TICK_EN enables the tick (40_clock.md rule R102). -/
def execTickEn (s : State) : Result :=
  operation s fun s => if !s.clkRdy then raiseFault .clockUninit s else enableTick s

/-- CLK_TICK advances the clock by one tick period, or is dropped (40_clock.md rule R103). -/
def execClkTick (s : State) : Result :=
  operation s fun s => if s.clkRdy && s.tickEn then advanceClock s else silent s

/-- CLK_NOW responds with the current time (40_clock.md rule R104). -/
def execClkNow (s : State) : Result :=
  operation s fun s => if !s.clkRdy then raiseFault .clockUninit s else respond s.millis s

end Sys2Proof.Machine
end

