-- ==== Sys2Proof/Machine/Transition.lean ====
section
/-! DEFINITION. NEXT, the guarded-transition function (41_state_machine.md rules R120 and R130 to R154), written state by
state. Machine/TransitionTable.lean holds the same function as the table of rule R121. -/

namespace Sys2Proof.Machine

/-- A single dwell exit: to n once e >= DUR_d. -/
def dwellExit (c : Params) (e : Millis) (d : DurName) (n : CycleState) : Option CycleState :=
  if dwellReached e (c.dur d) then some n else none

/-- Where the dwell exit of SoakWaterPumping leads (41_state_machine.md rule R137). -/
def soakPumpingExit (c : Params) : CycleState :=
  if c.soakHeatPath then .soakWaterHeating else .soakWaterDraining

/-- NEXT(s, e, st, sp) (41_state_machine.md rules R130 to R154): s is the current state, e the time elapsed since the last
transition, st "starting" and sp the latched stop flag. None means stay put. -/
def nextState (c : Params) (s : CycleState) (e : Millis) (st sp : Bool) : Option CycleState :=
  match s with
  | .initialDraining => dwellExit c e .draining .initialIdling
  | .initialIdling => if st then some .initialLocking else none
  | .initialLocking =>
    if !st then some .initialUnlocking else dwellExit c e .locking .initialSetupSeparatorOpening
  | .initialUnlocking => dwellExit c e .locking .initialIdling
  | .initialSetupSeparatorOpening => dwellExit c e .separatorTransition .initialSetupWaterPumping
  | .initialSetupWaterPumping => dwellExit c e .waterPumping .initialSetupSeparatorClosing
  | .initialSetupSeparatorClosing => dwellExit c e .separatorTransition .soakWaterPumping
  | .soakWaterPumping =>
    if sp then some .soakWaterDraining else dwellExit c e .waterPumping (soakPumpingExit c)
  | .soakWaterHeating =>
    if sp then some .soakWaterDraining else dwellExit c e .heating .soakWaterHeatedMixing
  | .soakWaterHeatedMixing =>
    if sp then some .soakWaterDraining else dwellExit c e .heatedMixing .soakWaterMixing
  | .soakWaterMixing =>
    if sp then some .soakWaterDraining else dwellExit c e .mixing .soakWaterDraining
  | .soakWaterDraining => dwellExit c e .draining (if sp then .idling else .rinseWaterPumping)
  | .rinseWaterPumping =>
    if sp || dwellReached e (c.dur .rinsing) then some .rinseWaterDraining else none
  | .rinseWaterDraining => dwellExit c e .draining (if sp then .idling else .separatorOpening)
  | .separatorOpening => dwellExit c e .separatorTransition .separatorHolding
  | .separatorHolding => dwellExit c e .separatorHolding .separatorClosing
  | .separatorClosing => dwellExit c e .separatorTransition .blending
  | .blending => dwellExit c e .blending .pulpDraining
  | .pulpDraining => dwellExit c e .draining .setupSeparatorOpening
  | .setupSeparatorOpening => dwellExit c e .separatorTransition .setupWaterPumping
  | .setupWaterPumping => dwellExit c e .waterPumping .setupSeparatorClosing
  | .setupSeparatorClosing => dwellExit c e .separatorTransition .idling
  | .idling => if st then some .locking else none
  | .locking => if !st then some .unlocking else dwellExit c e .locking .soakWaterPumping
  | .unlocking => dwellExit c e .locking .idling

end Sys2Proof.Machine
end

