-- ==== Sys2Proof/Machine/Controller.lean ====
section
/-! DEFINITION. The meanings of the Cycle Controller's operations (42_controller.md rules R161 to R170). -/

namespace Sys2Proof.Machine

/-- The writes of CTRL_INIT (42_controller.md rule R161). -/
def construct (s : State) : State :=
  { s with
    state := CycleState.initialDraining.code
    last := s.millis
    stopping := false
    out := entryAction s.params .initialDraining s.out
    ctlRdy := true
    resp := none }

/-- The writes of a POLL that stays put (42_controller.md rules R169 and R170). -/
def stayPut (sp : Bool) (s : State) : State :=
  { s with stopping := sp, resp := some (transitionedResp false) }

/-- The writes of a POLL that goes from cur to n (42_controller.md rules R166 to R168 and R170). -/
def moveTo (cur n : CycleState) (sp : Bool) (s : State) : State :=
  { s with
    out := transitionOut s.params cur n s.out
    state := n.code
    last := s.millis
    stopping := latchOnArrival n sp
    resp := some (transitionedResp true) }

/-- What NEXT answers for a POLL in the state cur (42_controller.md rules R164 to R166): MILLIS is read once, the stop level
is latched before the guards are evaluated. -/
def pollNext (startPin stopPin : Bool) (cur : CycleState) (s : State) : Option CycleState :=
  nextState s.params cur (elapsed s.millis s.last) (starting s.params startPin)
    (latchStop s.stopping (stopActive stopPin))

/-- The steps of POLL after its preconditions (42_controller.md rules R164 to R170). -/
def pollStep (startPin stopPin : Bool) (cur : CycleState) (s : State) : State :=
  match pollNext startPin stopPin cur s with
  | none => stayPut (latchStop s.stopping (stopActive stopPin)) s
  | some n => moveTo cur n (latchStop s.stopping (stopActive stopPin)) s

/-- CTRL_INIT creates the controller context (42_controller.md rule R161). -/
def execCtrlInit (s : State) : Result :=
  operation s fun s =>
    if !s.clkRdy then raiseFault .clockUninit s
    else if s.ctlRdy then raiseFault .ctrlReinit s
    else construct s

/-- POLL runs one control step with the sampled pin levels (42_controller.md rules R162 and R163). -/
def execPoll (startPin stopPin : Bool) (s : State) : Result :=
  operation s fun s =>
    if !s.clkRdy then raiseFault .clockUninit s
    else if !s.ctlRdy then raiseFault .ctrlUninit s
    else
      match CycleState.ofCode s.state with
      | none => raiseFault .invalidState s
      | some cur => pollStep startPin stopPin cur s

end Sys2Proof.Machine
end

