-- ==== Sys2Proof/Machine/Reserved.lean ====
section
/-! DEFINITION. The two decode faults (60_exceptions.md rules R200 and R203). -/

namespace Sys2Proof.Machine

/-- A word with OP = 111 raises Fault(RESERVED_OP) (30_encoding.md rule R75). -/
def execReservedOp (s : State) : Result :=
  operation s (raiseFault .reservedOp)

/-- A word with a stray reserved bit raises Fault(RESERVED_BITS) (30_encoding.md rule R73). -/
def rejectReservedBits (s : State) : Result :=
  operation s (raiseFault .reservedBits)

end Sys2Proof.Machine
end

