-- ==== Sys2Proof/Machine/Dispatch.lean ====
section
/-! DEFINITION. One arm per operation of spec/opcode_table.json. -/

namespace Sys2Proof.Machine

def exec (i : Instr) (s : State) : Host.Outcome State Fault Refusal :=
  match i with
  | .nop => Sys2Proof.Machine.execNop s
  | .clkInit => Sys2Proof.Machine.execClkInit s
  | .tickEn => Sys2Proof.Machine.execTickEn s
  | .clkTick => Sys2Proof.Machine.execClkTick s
  | .clkNow => Sys2Proof.Machine.execClkNow s
  | .ctrlInit => Sys2Proof.Machine.execCtrlInit s
  | .poll startPin stopPin => Sys2Proof.Machine.execPoll startPin stopPin s
  | .reservedOp => Sys2Proof.Machine.execReservedOp s

end Sys2Proof.Machine
end

