-- ==== Sys2Proof/Machine/Agents.lean ====
section
/-! DEFINITION. What one input event does: the two agents' operations and the por input (60_exceptions.md rules R208, R211
and R213). -/

namespace Sys2Proof.Machine

/-- A command word: decoded first, then run (40_clock.md, opening; 30_encoding.md rule R78). -/
def runCommand (w : Cmd) (s : State) : Result :=
  match decode w with
  | .op i => exec i s
  | .reservedBits => rejectReservedBits s

/-- Power-on reset (70_reset_and_hazards.md rule R240): every register to its power-on value, in any state, halted or not. The
parameters are fixed, and what the environment does next is not the block's to forget. DESIGN CHOICE, safe: notes/assumptions 10. -/
def powerOnReset (s : State) : State :=
  State.powerOn s.params s.draws s.pending

/-- One input event. -/
def runEvent (ev : Event) (s : State) : Result :=
  match ev with
  | .tickStrobe => exec .clkTick s
  | .command w => runCommand w s
  | .powerOnReset => .next (powerOnReset s)

/-- Take the next input event off the order; the draw number moves on, so that no two events draw the same value. -/
def takeEvent (rest : List Event) (s : State) : State :=
  { s with pending := rest, draws := s.draws + 1 }

/-- Put an event in front of all others, so that it is the next one. -/
def presentNext (ev : Event) (s : State) : State :=
  { s with pending := ev :: s.pending }

/-- The command word that stands in a table word's bits: one 8-bit word, the bits above nbits 0. -/
def wordOfTable (nbits w : Nat) : Cmd := BitVec.ofNat 8 (w % 2 ^ nbits)

end Sys2Proof.Machine
end

