-- ==== Sys2Proof/Machine/Step.lean ====
section
/-! DEFINITION. One step of the machine: the next input event of the total order (20_memory.md rule R57) is one atomic
step. -/

namespace Sys2Proof.Machine

/-- One step. While no event arrives the block does nothing: every change of its state is an operation or a reset
(00_scope.md rule R12, 70_reset_and_hazards.md rule R252). DESIGN CHOICE, safe: notes/assumptions 2 and 3. -/
def step (s : State) : Host.Outcome State Fault Refusal :=
  match s.pending with
  | [] => .next s
  | ev :: rest => runEvent ev (takeEvent rest s)

/-- s with the word presented on the command port as the next event (notes/assumptions 2 and 12). -/
def State.withFetchWord (s : State) (nbits w : Nat) : State :=
  presentNext (.command (wordOfTable nbits w)) s

end Sys2Proof.Machine
end

