-- ==== Sys2Proof/Machine/Assembler.lean ====
section
/-! DEFINITION. The stimulus syntax: the pseudo-instructions (30_encoding.md rule R80) and the text of one program, one
operation per line (rule R79). -/

namespace Sys2Proof.Machine

/-- BOOT (30_encoding.md rule R80). -/
def asmBoot : List Instr := [.clkInit, .tickEn, .ctrlInit]

/-- TICKS n. -/
def asmTicks (n : Nat) : List Instr := List.replicate n .clkTick

/-- IDLEPOLL: start inactive, stop inactive. -/
def asmIdlePoll (startActiveLevel : Bool) : List Instr := [.poll (!startActiveLevel) true]

/-- STARTPOLL: start active, stop inactive. -/
def asmStartPoll (startActiveLevel : Bool) : List Instr := [.poll startActiveLevel true]

/-- STOPPOLL: start inactive, stop active. -/
def asmStopPoll (startActiveLevel : Bool) : List Instr := [.poll (!startActiveLevel) false]

/-- A comment starts with a semicolon and runs to the end of the line. -/
def stripComment (line : List Char) : List Char := line.takeWhile (fun ch => ch != ';')

/-- Splits characters at every one that satisfies p, without dropping empty parts. -/
def splitAtChars (p : Char → Bool) : List Char → List (List Char)
  | [] => [[]]
  | ch :: rest =>
    if p ch then [] :: splitAtChars p rest
    else
      match splitAtChars p rest with
      | [] => [[ch]]
      | part :: parts => (ch :: part) :: parts

/-- The words of a line, between blanks. -/
def lineTokens (line : List Char) : List (List Char) :=
  (splitAtChars (fun ch => ch == ' ' || ch == '\t' || ch == '\r') (stripComment line)).filter (fun t => !t.isEmpty)

/-- A pin level, 0 or 1. -/
def parseLevel : List Char → Option Bool
  | ['0'] => some false
  | ['1'] => some true
  | _ => none

/-- The level after a given opening, such as start= . -/
def parseOperand (opening closing token : List Char) : Option Bool :=
  if token.take opening.length = opening ∧ token.drop (opening.length + 1) = closing then
    parseLevel ((token.drop opening.length).take 1)
  else none

/-- A decimal number without a sign (00_scope.md rule R9). -/
def parseDecimal (digits : List Char) : Option Nat :=
  if digits.isEmpty then none
  else
    digits.foldl
      (fun acc ch =>
        match acc with
        | none => none
        | some n => if ch.isDigit then some (10 * n + (ch.toNat - 48)) else none)
      (some 0)

/-- The operations of one line; none for a line that is no line of the syntax. -/
def assembleLine (startActiveLevel : Bool) (line : List Char) : Option (List Instr) :=
  match lineTokens line with
  | [] => some []
  | [m] =>
    if m = ['N', 'O', 'P'] then some [.nop]
    else if m = ['C', 'L', 'K', '_', 'I', 'N', 'I', 'T'] then some [.clkInit]
    else if m = ['T', 'I', 'C', 'K', '_', 'E', 'N'] then some [.tickEn]
    else if m = ['C', 'L', 'K', '_', 'T', 'I', 'C', 'K'] then some [.clkTick]
    else if m = ['C', 'L', 'K', '_', 'N', 'O', 'W'] then some [.clkNow]
    else if m = ['C', 'T', 'R', 'L', '_', 'I', 'N', 'I', 'T'] then some [.ctrlInit]
    else if m = ['B', 'O', 'O', 'T'] then some asmBoot
    else if m = ['I', 'D', 'L', 'E', 'P', 'O', 'L', 'L'] then some (asmIdlePoll startActiveLevel)
    else if m = ['S', 'T', 'A', 'R', 'T', 'P', 'O', 'L', 'L'] then some (asmStartPoll startActiveLevel)
    else if m = ['S', 'T', 'O', 'P', 'P', 'O', 'L', 'L'] then some (asmStopPoll startActiveLevel)
    else none
  | [m, n] =>
    if m = ['T', 'I', 'C', 'K', 'S'] then (parseDecimal n).map asmTicks else none
  | [m, a, b] =>
    if m = ['P', 'O', 'L', 'L'] then
      match parseOperand ['s', 't', 'a', 'r', 't', '='] [','] a, parseOperand ['s', 't', 'o', 'p', '='] [] b with
      | some startPin, some stopPin => some [.poll startPin stopPin]
      | _, _ => none
    else none
  | _ => none

/-- The command words of a program text, one operation or pseudo-instruction per line (30_encoding.md rules R74, R79 and
R80); none if a line is not of the syntax. -/
def assemble (startActiveLevel : Bool) (text : List Char) : Option (List Cmd) :=
  ((splitAtChars (fun ch => ch == '\n') text).mapM (assembleLine startActiveLevel)).map
    (fun parts => parts.flatten.map encode)

end Sys2Proof.Machine
end

