-- ==== Sys2Proof/Machine/Ports.lean ====
section
/-! DEFINITION. The output ports (60_exceptions.md rule R211) as views of the state. -/

namespace Sys2Proof.Machine

/-- The output ports. -/
structure OutPorts where
  /-- resp, 32 bits -/
  resp : BitVec 32
  /-- out, 11 bits -/
  out : ActMask
  /-- fault_code, 3 bits -/
  faultCode : FaultCode
  deriving DecidableEq, Repr

/-- The levels of the output ports. The resp port carries the response of the latest operation; where that gave none, its
level is "any value" (93_implementation_defined.md section 2), a free draw. -/
def State.ports (s : State) : OutPorts where
  resp := s.resp.getD (Config.drawResp s.draws)
  out := s.out
  faultCode := s.fault

/-- The level OUT drives one actuator at (10_state.md rule R31). -/
def State.actuator (s : State) (a : Actuator) : Bool := s.out.getLsbD a.bit

/-- A 32-bit response sent over a port of 8 bits: least significant byte first (20_memory.md rule R52). -/
def serialise (v : BitVec 32) : List (BitVec 8) :=
  [v.extractLsb' 0 8, v.extractLsb' 8 8, v.extractLsb' 16 8, v.extractLsb' 24 8]

end Sys2Proof.Machine
end

