-- ==== Sys2Proof/Machine/TransitionTable.lean ====
section
/-! DEFINITION. The transition table of 41_state_machine.md rule R121 as data, its 31 rows in the spec's order, with its
reading: for each state the rows are tried top to bottom and the first whose guard holds gives the next state. -/

namespace Sys2Proof.Machine

/-- The guards that stand in the table. -/
inductive Guard where
  /-- e >= DUR_d -/
  | dwell (d : DurName)
  /-- st -/
  | start
  /-- not st -/
  | notStart
  /-- sp -/
  | stop
  /-- sp or e >= DUR_d -/
  | stopOrDwell (d : DurName)
  deriving DecidableEq, Repr

/-- The entries of the column "Next". -/
inductive Target where
  /-- one state -/
  | to (n : CycleState)
  /-- the first state if sp, else the second -/
  | ifStop (n m : CycleState)
  /-- the first state if SOAK_HEAT_PATH = 1, else the second -/
  | ifHeat (n m : CycleState)
  deriving DecidableEq, Repr

/-- One row of the table. -/
structure TableRow where
  source : CycleState
  guard : Guard
  target : Target
  deriving DecidableEq, Repr

/-- Whether a guard holds. -/
def Guard.holds (c : Params) (e : Millis) (st sp : Bool) : Guard → Bool
  | .dwell d => dwellReached e (c.dur d)
  | .start => st
  | .notStart => !st
  | .stop => sp
  | .stopOrDwell d => sp || dwellReached e (c.dur d)

/-- The state a target names. -/
def Target.resolve (c : Params) (sp : Bool) : Target → CycleState
  | .to n => n
  | .ifStop n m => if sp then n else m
  | .ifHeat n m => if c.soakHeatPath then n else m

/-- The rows of 41_state_machine.md rule R121, numbers 1 to 31. -/
def transitionTable : List TableRow :=
  [⟨.initialDraining, .dwell .draining, .to .initialIdling⟩,
   ⟨.initialIdling, .start, .to .initialLocking⟩,
   ⟨.initialLocking, .notStart, .to .initialUnlocking⟩,
   ⟨.initialLocking, .dwell .locking, .to .initialSetupSeparatorOpening⟩,
   ⟨.initialUnlocking, .dwell .locking, .to .initialIdling⟩,
   ⟨.initialSetupSeparatorOpening, .dwell .separatorTransition, .to .initialSetupWaterPumping⟩,
   ⟨.initialSetupWaterPumping, .dwell .waterPumping, .to .initialSetupSeparatorClosing⟩,
   ⟨.initialSetupSeparatorClosing, .dwell .separatorTransition, .to .soakWaterPumping⟩,
   ⟨.soakWaterPumping, .stop, .to .soakWaterDraining⟩,
   ⟨.soakWaterPumping, .dwell .waterPumping, .ifHeat .soakWaterHeating .soakWaterDraining⟩,
   ⟨.soakWaterHeating, .stop, .to .soakWaterDraining⟩,
   ⟨.soakWaterHeating, .dwell .heating, .to .soakWaterHeatedMixing⟩,
   ⟨.soakWaterHeatedMixing, .stop, .to .soakWaterDraining⟩,
   ⟨.soakWaterHeatedMixing, .dwell .heatedMixing, .to .soakWaterMixing⟩,
   ⟨.soakWaterMixing, .stop, .to .soakWaterDraining⟩,
   ⟨.soakWaterMixing, .dwell .mixing, .to .soakWaterDraining⟩,
   ⟨.soakWaterDraining, .dwell .draining, .ifStop .idling .rinseWaterPumping⟩,
   ⟨.rinseWaterPumping, .stopOrDwell .rinsing, .to .rinseWaterDraining⟩,
   ⟨.rinseWaterDraining, .dwell .draining, .ifStop .idling .separatorOpening⟩,
   ⟨.separatorOpening, .dwell .separatorTransition, .to .separatorHolding⟩,
   ⟨.separatorHolding, .dwell .separatorHolding, .to .separatorClosing⟩,
   ⟨.separatorClosing, .dwell .separatorTransition, .to .blending⟩,
   ⟨.blending, .dwell .blending, .to .pulpDraining⟩,
   ⟨.pulpDraining, .dwell .draining, .to .setupSeparatorOpening⟩,
   ⟨.setupSeparatorOpening, .dwell .separatorTransition, .to .setupWaterPumping⟩,
   ⟨.setupWaterPumping, .dwell .waterPumping, .to .setupSeparatorClosing⟩,
   ⟨.setupSeparatorClosing, .dwell .separatorTransition, .to .idling⟩,
   ⟨.idling, .start, .to .locking⟩,
   ⟨.locking, .notStart, .to .unlocking⟩,
   ⟨.locking, .dwell .locking, .to .soakWaterPumping⟩,
   ⟨.unlocking, .dwell .locking, .to .idling⟩]

/-- The rows tried top to bottom: the first row of the state whose guard holds gives the next state. -/
def firstMatch (c : Params) (s : CycleState) (e : Millis) (st sp : Bool) : List TableRow → Option CycleState
  | [] => none
  | r :: rows =>
    if r.source = s ∧ r.guard.holds c e st sp = true then some (r.target.resolve c sp)
    else firstMatch c s e st sp rows

/-- NEXT as rule R121 defines it. -/
def nextByTable (c : Params) (s : CycleState) (e : Millis) (st sp : Bool) : Option CycleState :=
  firstMatch c s e st sp transitionTable

end Sys2Proof.Machine
end

