-- ==== Sys2Proof/Safety.lean ====
section
/-! DEFINITION. What counts as a safe run, in the terms that claims use: fault outcomes, the invariants that every step keeps,
the events that the environment owes or may choose, and reachability in the transition table. -/

namespace Sys2Proof.Safety

open Sys2Proof.Machine

/-! ## Fault outcomes -/

/-- The outcome of a step, read as 60_exceptions.md rule R202 asks of a model: a next state whose block is halted is a fault
outcome, which no claim of a fault-free run survives. -/
def judge (o : Result) : Result :=
  match o with
  | .next s =>
    match Fault.ofCode s.fault with
    | some f => .fault f
    | none => .next s
  | .fault f => .fault f
  | .refused r => .refused r

/-- A step whose halted next states are fault outcomes. -/
def judgedStep (s : State) : Result := judge (step s)

/-- The machine whose halted states end a run with their fault. -/
def judgedCore : Host.Core where
  State := State
  Fault := Fault
  Refusal := Refusal
  step := judgedStep
  reset := State.reset

/-! ## Invariants -/

/-- The clock's invariant: FRAC stays below TICK_DEN once the clock runs (10_state.md rules R24 and R40(d)); the tick is
enabled and the context built only on a running clock (60_exceptions.md rule R203); time stands at 0 until the tick is
enabled (70_reset_and_hazards.md rule R251). -/
def clockInv (s : State) : Prop :=
  s.params.wf = true ∧
  (s.clkRdy = true → s.frac < s.params.tickDen) ∧
  (s.tickEn = true → s.clkRdy = true) ∧
  (s.ctlRdy = true → s.clkRdy = true) ∧
  (s.clkRdy = true → s.tickEn = false → s.millis = 0#32 ∧ s.frac = 0)

/-- The controller's invariant (10_state.md rule R40(a) and (c), 42_controller.md rule R171): once the context is built, STATE
names a state and, under ACTIONS_SYMMETRIC, OUT is that state's mask; until then OUT is 0. -/
def controllerInv (s : State) : Prop :=
  (s.ctlRdy = true → s.state.toNat ≤ 24) ∧
  (s.ctlRdy = false → s.out = 0#11) ∧
  (s.params.symmetric = true → s.ctlRdy = true →
    ∀ cur : CycleState, s.state = cur.code → s.out = s.params.entryMaskOf cur)

/-- With SOAK_HEAT_PATH = 0 the three heating and mixing states are never current (41_state_machine.md rule R157). -/
def noHeatInv (s : State) : Prop :=
  s.params.soakHeatPath = false → s.ctlRdy = true → s.state ≠ 8#5 ∧ s.state ≠ 9#5 ∧ s.state ≠ 10#5

/-! ## Events -/

/-- CLK_TICK, as a strobe or as the word 0x03 (30_encoding.md rule R77). -/
def isTick : Event → Bool
  | .tickStrobe => true
  | .command w => w == 0x03#8
  | .powerOnReset => false

/-- A POLL word whose start pin is at the active level. -/
def pollsWithStart (c : Params) : Event → Bool
  | .tickStrobe => false
  | .command w =>
    match decode w with
    | .op (.poll startPin _) => starting c startPin
    | _ => false
  | .powerOnReset => false

/-- The next event is a tick and the block accepts it: CLK_RDY = 1 and TICK_EN = 1, not halted (40_clock.md rule R109). -/
def acceptsTick (s : State) : Bool :=
  s.fault == 0#3 && s.clkRdy && s.tickEn &&
    (match s.pending with
     | [] => false
     | ev :: _ => isTick ev)

/-- How many ticks the block accepts in its next k steps. -/
def acceptedTicks : Nat → State → Nat
  | 0, _ => 0
  | k + 1, s =>
    (if acceptsTick s then 1 else 0) +
      (match step s with
       | .next t => acceptedTicks k t
       | .fault _ => 0
       | .refused _ => 0)

/-- No power-on reset among the next k events. -/
def noReset (k : Nat) (s : State) : Prop := Event.powerOnReset ∉ s.pending.take k

/-! ## The environment (70_reset_and_hazards.md rule R244) -/

/-- How far the boot sequence of 70_reset_and_hazards.md rule R241 has come. -/
inductive BootPhase where
  /-- CLK_INIT is still to come. -/
  | off
  /-- After CLK_INIT. -/
  | clock
  /-- After CLK_INIT and TICK_EN. -/
  | clockTick
  /-- After CLK_INIT and CTRL_INIT. -/
  | clockCtrl
  /-- The boot sequence is complete. -/
  | booted
  deriving DecidableEq, Repr

/-- The phase after a word that the duty and the liberties of the poll loop allow in a phase, none for any other word: the boot
sequence once, TICK_EN and CTRL_INIT in either order (rule R241); POLL only after it; CLK_NOW at any time after CLK_INIT; NOP at
any time (rule R244). -/
def dutyNext (p : BootPhase) (w : Cmd) : Option BootPhase :=
  match decode w with
  | .reservedBits => none
  | .op i =>
    match i with
    | .nop => some p
    | .clkInit => if p = .off then some .clock else none
    | .tickEn => if p = .clock then some .clockTick else if p = .clockCtrl then some .booted else none
    | .clkTick => none
    | .clkNow => if p = .off then none else some p
    | .ctrlInit => if p = .clock then some .clockCtrl else if p = .clockTick then some .booted else none
    | .poll _ _ => if p = .booted then some p else none
    | .reservedOp => none

/-- The words of a poll loop that does its duty from a phase on, as far as they go. -/
def dutifulWords (p : BootPhase) : List Cmd → Bool
  | [] => true
  | w :: rest =>
    match dutyNext p w with
    | some q => dutifulWords q rest
    | none => false

/-- The command words among events. -/
def commandWords (evs : List Event) : List Cmd :=
  evs.filterMap fun ev =>
    match ev with
    | .command w => some w
    | .tickStrobe => none
    | .powerOnReset => none

/-- Events of an environment that does its duty (DEDUCED, safe: notes/assumptions 18): any number of tick strobes anywhere, the words of a dutiful poll loop, any
pin levels, and no second power-on. -/
def dutiful (evs : List Event) : Bool :=
  !evs.contains .powerOnReset && dutifulWords .off (commandWords evs)

/-- Where a phase of the boot sequence leaves the block, and what its environment still owes it: no fault, the ready bits and
TICK_EN as the phase says, a legal STATE once the context is built, and a dutiful rest of the events without a power-on reset
(70_reset_and_hazards.md rules R241 and R244, 10_state.md rule R40(a)). -/
def phaseInv (p : BootPhase) (s : State) : Prop :=
  s.fault = 0#3 ∧
  (s.clkRdy = true ↔ p ≠ .off) ∧
  (s.tickEn = true ↔ p = .clockTick ∨ p = .booted) ∧
  (s.ctlRdy = true ↔ p = .clockCtrl ∨ p = .booted) ∧
  (s.ctlRdy = true → s.state.toNat ≤ 24) ∧
  Event.powerOnReset ∉ s.pending ∧
  dutifulWords p (commandWords s.pending) = true

/-- The duty's invariant: the block stands where some phase of the boot sequence leaves it. -/
def dutyInv (s : State) : Prop := ∃ p : BootPhase, phaseInv p s

/-! ## Reachability (41_state_machine.md rule R157) -/

/-- The states reachable from one state through NEXT, under any elapsed times and inputs. -/
inductive Reaches (c : Params) (a : CycleState) : CycleState → Prop where
  | refl : Reaches c a a
  | move {b n : CycleState} (e : Millis) (st sp : Bool) :
      Reaches c a b → nextState c b e st sp = some n → Reaches c a n

end Sys2Proof.Safety
end

