-- ==== Sys2Proof/Certificates/Slice0/Obligations.lean ====
section
/-! DEFINITION. The statements for the provers. Each docstring names the rule of spec/ it formalises, or the entry of
notes/assumptions where it states a choice of the model's. -/

open Sys2Proof Sys2Proof.Machine Sys2Proof.Safety

/-! ## Encoding and decoding -/

/-- Decode and encode agree: every well-formed instruction comes back from its own word, and every word that decodes to an
instruction without ignored bits is that instruction's own word (30_encoding.md rules R74 and R78). -/
def Obligations.DecodeAndEncodeAgree : Prop :=
  (∀ i : Instr, i.wf = true → decode (encode i) = .op i) ∧
  (∀ (w : Cmd) (i : Instr), decode w = .op i → i ≠ .nop → i ≠ .reservedOp → encode i = w) ∧
  (∀ (w : Cmd) (i : Instr), decode w = .op i → w &&& 0x07#8 = encode i &&& 0x07#8)

/-- The decoder is total and decodes each of the 256 words as 30_encoding.md rule R78 says, with the counts it gives. -/
def Obligations.DecodeFollowsItsRule : Prop :=
  (∀ w : Cmd,
    (w &&& 0x07#8 = 0#8 → decode w = .op .nop) ∧
    (w &&& 0x07#8 = 7#8 → decode w = .op .reservedOp) ∧
    (w &&& 0x07#8 = 6#8 →
      decode w = if w >>> 5 = 0#8 then .op (.poll (w.getLsbD 3) (w.getLsbD 4)) else .reservedBits) ∧
    (w &&& 0x07#8 = 1#8 → decode w = if w >>> 3 = 0#8 then .op .clkInit else .reservedBits) ∧
    (w &&& 0x07#8 = 2#8 → decode w = if w >>> 3 = 0#8 then .op .tickEn else .reservedBits) ∧
    (w &&& 0x07#8 = 3#8 → decode w = if w >>> 3 = 0#8 then .op .clkTick else .reservedBits) ∧
    (w &&& 0x07#8 = 4#8 → decode w = if w >>> 3 = 0#8 then .op .clkNow else .reservedBits) ∧
    (w &&& 0x07#8 = 5#8 → decode w = if w >>> 3 = 0#8 then .op .ctrlInit else .reservedBits)) ∧
  ((List.range 256).filter fun n => decode (BitVec.ofNat 8 n) = .op .nop).length = 32 ∧
  ((List.range 256).filter fun n =>
    [Decoded.op .clkInit, .op .tickEn, .op .clkTick, .op .clkNow, .op .ctrlInit].contains
      (decode (BitVec.ofNat 8 n))).length = 5 ∧
  ((List.range 256).filter fun n =>
    [Decoded.op (.poll false false), .op (.poll false true), .op (.poll true false), .op (.poll true true)].contains
      (decode (BitVec.ofNat 8 n))).length = 4 ∧
  ((List.range 256).filter fun n => decode (BitVec.ofNat 8 n) = .op .reservedOp).length = 32 ∧
  ((List.range 256).filter fun n => decode (BitVec.ofNat 8 n) = .reservedBits).length = 183 ∧
  ((List.range 256).filter fun n => decode (BitVec.ofNat 8 n) = .reservedBits ∧ n % 8 ≠ 6).length = 155 ∧
  ((List.range 256).filter fun n => decode (BitVec.ofNat 8 n) = .reservedBits ∧ n % 8 = 6).length = 28

/-- A few words written out from the opcode map decode to what they stand for (30_encoding.md rule R74; sanity). -/
def Obligations.KnownWordsDecode : Prop :=
  decode 0b11111000#8 = .op .nop ∧ decode 0b00000001#8 = .op .clkInit ∧ decode 0b00000010#8 = .op .tickEn ∧
  decode 0b00000011#8 = .op .clkTick ∧ decode 0b00000100#8 = .op .clkNow ∧ decode 0b00000101#8 = .op .ctrlInit ∧
  decode 0b11111111#8 = .op .reservedOp ∧ decode 0b00001001#8 = .reservedBits ∧ decode 0b00100110#8 = .reservedBits

/-- The four POLL words and what their pins mean, at either start polarity (30_encoding.md rule R81). -/
def Obligations.PollWordsAndTheirPins : Prop :=
  decode 0x06#8 = .op (.poll false false) ∧ decode 0x0E#8 = .op (.poll true false) ∧
  decode 0x16#8 = .op (.poll false true) ∧ decode 0x1E#8 = .op (.poll true true) ∧
  ∀ c : Params,
    (c.startActiveLevel = true → starting c false = false ∧ starting c true = true) ∧
    (c.startActiveLevel = false → starting c false = true ∧ starting c true = false) ∧
    stopActive false = true ∧ stopActive true = false

/-- The pseudo-instructions' words, with START_ACTIVE_LEVEL = 1 where a POLL word depends on it (30_encoding.md rule R80). -/
def Obligations.PseudoInstructionWords : Prop :=
  asmBoot.map encode = [0x01#8, 0x02#8, 0x05#8] ∧
  (∀ n : Nat, (asmTicks n).map encode = List.replicate n 0x03#8) ∧
  (∀ b : Bool, asmIdlePoll b = [.poll (!b) true] ∧ asmStartPoll b = [.poll b true] ∧
    asmStopPoll b = [.poll (!b) false]) ∧
  (asmIdlePoll true).map encode = [0x16#8] ∧ (asmStartPoll true).map encode = [0x1E#8] ∧
  (asmStopPoll true).map encode = [0x06#8]

/-! ## Steps -/

/-- A step runs the decoded instruction: where the next event is a command word that decodes to a well-formed instruction i,
the step is exec i on the state with that event taken (the model's own event list and draw number, notes/assumptions 2 and
8). -/
def Obligations.StepRunsDecodedCommand : Prop :=
  ∀ (s : State) (w : Cmd) (rest : List Event) (i : Instr),
    s.pending = .command w :: rest → decode w = .op i → i.wf = true →
      step s = exec i { s with pending := rest, draws := s.draws + 1 }

/-- The tick strobe and the command word 0x03 are the same operation, CLK_TICK (30_encoding.md rule R77). -/
def Obligations.TickStrobeIsClkTick : Prop :=
  ∀ (s : State) (rest : List Event),
    step { s with pending := .tickStrobe :: rest } = step { s with pending := .command 0x03#8 :: rest } ∧
    step { s with pending := .tickStrobe :: rest } =
      exec .clkTick { s with pending := rest, draws := s.draws + 1 }

/-- While no event arrives the block does nothing. The model's choice: notes/assumptions 3. -/
def Obligations.NoEventNoEffect : Prop :=
  ∀ s : State, s.pending = [] → step s = .next s

/-- The por input puts the registers in the power-on state, halted or not, and nothing else clears FAULT
(70_reset_and_hazards.md rule R240). That the events still to come outlast the reset is the model's choice
(notes/assumptions 10). -/
def Obligations.PowerOnResetAloneClearsFault : Prop :=
  (∀ (s : State) (rest : List Event), s.pending = .powerOnReset :: rest →
    ∃ t, step s = .next t ∧ t.tickEn = false ∧ t.clkRdy = false ∧ t.ctlRdy = false ∧ t.fault = 0#3 ∧ t.out = 0#11 ∧
      t.params = s.params ∧ t.pending = rest) ∧
  (∀ s t : State, step s = .next t → s.fault ≠ 0#3 → t.fault = 0#3 → ∃ rest, s.pending = .powerOnReset :: rest)

/-- State.reset is the power-on state (10_state.md rule R41): the five registers with a power-on value hold it. Its empty
event list, silent response and draw number 0, and what is said of its uninterpreted parameters, are the model's own
(notes/assumptions 2, 4, 6 and 8). -/
def Obligations.ResetHoldsPowerOnValues : Prop :=
  State.reset.tickEn = false ∧ State.reset.clkRdy = false ∧ State.reset.ctlRdy = false ∧ State.reset.out = 0#11 ∧
  State.reset.fault = 0#3 ∧ State.reset.pending = [] ∧ State.reset.resp = none ∧ State.reset.draws = 0 ∧
  State.reset.params.wf = true ∧ State.reset.params.symmetric = true ∧ State.reset.params.soakHeatPath = false

/-- Every step, of every event in every state, completes with a next state. This is the model's choice, not a rule's words:
that an operation which raises a fault, and an operation of a halted block, answers a next state is notes/assumptions 1 (a
halted block is a fault outcome of the judged step), and that a step with no event answers one is notes/assumptions 3. -/
def Obligations.EveryStepCompletes : Prop :=
  ∀ s : State, ∃ t : State, step s = .next t

/-- A halted block is a fault outcome (60_exceptions.md rule R202): the judged step answers the fault whose code stands in the
FAULT register after the step, and a next state exactly when there is none. The rendering is the model's (notes/assumptions 1). -/
def Obligations.HaltedStateIsFaultOutcome : Prop :=
  ∀ s t : State, step s = .next t →
    (t.fault = 0#3 → judgedStep s = .next t) ∧
    (∀ f : Fault, t.fault = f.code → judgedStep s = .fault f) ∧
    (t.fault ≠ 0#3 → ∃ f : Fault, t.fault = f.code)

/-! ## Each operation -/

/-- NOP does nothing, in any state and whatever bits 7:3 hold (40_clock.md rule R105). -/
def Obligations.NopDoesNothing : Prop :=
  (∀ s : State, exec .nop s = .next { s with resp := none }) ∧
  (∀ (w : Cmd) (s : State), w &&& 0x07#8 = 0#8 → runCommand w s = .next { s with resp := none })

/-- CLK_INIT starts the clock at zero, once (40_clock.md rule R101). -/
def Obligations.ClkInitStartsClock : Prop :=
  (∀ s : State, s.fault = 0#3 → s.clkRdy = false →
    exec .clkInit s = .next { s with millis := 0#32, frac := 0, clkRdy := true, resp := none }) ∧
  (∀ s : State, s.fault = 0#3 → s.clkRdy = true →
    exec .clkInit s = .next { s with fault := 2#3, resp := none }) ∧
  decode 0x01#8 = .op .clkInit ∧
  (∀ (w : Cmd) (s : State), w &&& 0x07#8 = 1#8 → w ≠ 0x01#8 → s.fault = 0#3 →
    runCommand w s = .next { s with fault := 6#3, resp := none })

/-- TICK_EN sets the tick-enable bit after CLK_INIT; repeating it is no fault, no operation clears the bit, and without it no
operation of a started clock moves MILLIS (40_clock.md rule R102). -/
def Obligations.TickEnEnablesTick : Prop :=
  (∀ s : State, s.fault = 0#3 → s.clkRdy = true → exec .tickEn s = .next { s with tickEn := true, resp := none }) ∧
  (∀ s : State, s.fault = 0#3 → s.clkRdy = false → exec .tickEn s = .next { s with fault := 1#3, resp := none }) ∧
  (∀ (i : Instr) (s t : State), exec i s = .next t → s.tickEn = true → t.tickEn = true) ∧
  (∀ (i : Instr) (s t : State), exec i s = .next t → s.clkRdy = true → s.tickEn = false → t.millis = s.millis) ∧
  decode 0x02#8 = .op .tickEn ∧
  (∀ (w : Cmd) (s : State), w &&& 0x07#8 = 2#8 → w ≠ 0x02#8 → s.fault = 0#3 →
    runCommand w s = .next { s with fault := 6#3, resp := none })

/-- CLK_TICK adds one tick period, with the remainder kept in FRAC, or is dropped; the increment is TICK_NUM div TICK_DEN or
one more (40_clock.md rule R103). -/
def Obligations.ClkTickAdvancesClock : Prop :=
  (∀ s : State, s.fault = 0#3 → s.clkRdy = true → s.tickEn = true →
    exec .clkTick s = .next { s with
      millis := s.millis + BitVec.ofNat 32 ((s.frac + s.params.tickNum) / s.params.tickDen)
      frac := (s.frac + s.params.tickNum) % s.params.tickDen
      resp := none }) ∧
  (∀ s : State, s.fault = 0#3 → (s.clkRdy = false ∨ s.tickEn = false) →
    exec .clkTick s = .next { s with resp := none }) ∧
  (∀ s : State, 0 < s.params.tickDen → s.frac < s.params.tickDen →
    (s.frac + s.params.tickNum) / s.params.tickDen = s.params.tickNum / s.params.tickDen ∨
    (s.frac + s.params.tickNum) / s.params.tickDen = s.params.tickNum / s.params.tickDen + 1) ∧
  decode 0x03#8 = .op .clkTick ∧
  (∀ (w : Cmd) (s : State), w &&& 0x07#8 = 3#8 → w ≠ 0x03#8 → s.fault = 0#3 →
    runCommand w s = .next { s with fault := 6#3, resp := none })

/-- CLK_NOW responds with MILLIS and changes no state (40_clock.md rule R104). -/
def Obligations.ClkNowRespondsMillis : Prop :=
  (∀ s : State, s.fault = 0#3 → s.clkRdy = true → exec .clkNow s = .next { s with resp := some s.millis }) ∧
  (∀ s : State, s.fault = 0#3 → s.clkRdy = false → exec .clkNow s = .next { s with fault := 1#3, resp := none }) ∧
  decode 0x04#8 = .op .clkNow ∧
  (∀ (w : Cmd) (s : State), w &&& 0x07#8 = 4#8 → w ≠ 0x04#8 → s.fault = 0#3 →
    runCommand w s = .next { s with fault := 6#3, resp := none })

/-- CTRL_INIT builds the controller context, once and on a running clock, and applies the entry action of InitialDraining
(42_controller.md rule R161). -/
def Obligations.CtrlInitBuildsContext : Prop :=
  (∀ s : State, s.fault = 0#3 → s.clkRdy = true → s.ctlRdy = false →
    exec .ctrlInit s = .next { s with
      state := 0#5, last := s.millis, stopping := false, out := s.out ^^^ s.params.entryMask.get 0
      ctlRdy := true, resp := none }) ∧
  (∀ s : State, s.fault = 0#3 → s.clkRdy = false → exec .ctrlInit s = .next { s with fault := 1#3, resp := none }) ∧
  (∀ s : State, s.fault = 0#3 → s.clkRdy = true → s.ctlRdy = true →
    exec .ctrlInit s = .next { s with fault := 4#3, resp := none }) ∧
  decode 0x05#8 = .op .ctrlInit ∧
  (∀ (w : Cmd) (s : State), w &&& 0x07#8 = 5#8 → w ≠ 0x05#8 → s.fault = 0#3 →
    runCommand w s = .next { s with fault := 6#3, resp := none })

/-- POLL checks the clock, then the context, then STATE, and a faulting POLL changes nothing but FAULT; no operation writes
STATE a code above 24 (42_controller.md rule R163). -/
def Obligations.PollPreconditions : Prop :=
  (∀ (i : Instr) (s t : State), exec i s = .next t → t.state = s.state ∨ t.state.toNat ≤ 24) ∧
  ∀ (startPin stopPin : Bool) (s : State), s.fault = 0#3 →
    (s.clkRdy = false → exec (.poll startPin stopPin) s = .next { s with fault := 1#3, resp := none }) ∧
    (s.clkRdy = true → s.ctlRdy = false →
      exec (.poll startPin stopPin) s = .next { s with fault := 3#3, resp := none }) ∧
    (s.clkRdy = true → s.ctlRdy = true → 24 < s.state.toNat →
      exec (.poll startPin stopPin) s = .next { s with fault := 7#3, resp := none })

/-- Where NEXT answers None, POLL writes the latch and changes nothing else (42_controller.md rule R169), and responds 0. -/
def Obligations.PollStaysPut : Prop :=
  ∀ (startPin stopPin : Bool) (cur : CycleState) (s : State),
    s.fault = 0#3 → s.clkRdy = true → s.ctlRdy = true → s.state = cur.code →
    nextState s.params cur (s.millis - s.last) (startPin == s.params.startActiveLevel) (s.stopping || !stopPin) = none →
      exec (.poll startPin stopPin) s = .next { s with stopping := s.stopping || !stopPin, resp := some 0#32 }

/-- Where NEXT answers Some n, POLL writes STATE and LAST together, applies the exit and the entry action in one write, clears
the latch iff n is idle, and responds 1 (42_controller.md rules R166 to R168 and R170). -/
def Obligations.PollTakesTransition : Prop :=
  ∀ (startPin stopPin : Bool) (cur n : CycleState) (s : State),
    s.fault = 0#3 → s.clkRdy = true → s.ctlRdy = true → s.state = cur.code →
    nextState s.params cur (s.millis - s.last) (startPin == s.params.startActiveLevel) (s.stopping || !stopPin) =
      some n →
      exec (.poll startPin stopPin) s = .next { s with
        out := s.out ^^^ s.params.exitMask.get cur.index ^^^ s.params.entryMask.get n.index
        state := n.code
        last := s.millis
        stopping := if n = .idling ∨ n = .initialIdling then false else s.stopping || !stopPin
        resp := some 1#32 }

/-- A word with OP = 111 raises RESERVED_OP, whatever its other bits hold (30_encoding.md rule R75). -/
def Obligations.ReservedOpFaults : Prop :=
  (∀ s : State, s.fault = 0#3 → exec .reservedOp s = .next { s with fault := 5#3, resp := none }) ∧
  (∀ (w : Cmd) (s : State), w &&& 0x07#8 = 7#8 → s.fault = 0#3 →
    runCommand w s = .next { s with fault := 5#3, resp := none })

/-! ## Faults -/

/-- What a command word leaves in FAULT, from the checks of each operation in their order, and that the tick strobe never
faults (60_exceptions.md rules R203 and R204). -/
def Obligations.FaultsInCheckOrder : Prop :=
  (∀ (s t : State) (rest : List Event),
    s.pending = .tickStrobe :: rest → s.fault = 0#3 → step s = .next t → t.fault = 0#3) ∧
  ∀ (s t : State) (w : Cmd) (rest : List Event),
    s.pending = .command w :: rest → s.fault = 0#3 → step s = .next t →
      (w &&& 7#8 = 0#8 → t.fault = 0#3) ∧
      (w &&& 7#8 = 7#8 → t.fault = 5#3) ∧
      (w &&& 7#8 = 1#8 → t.fault = if w >>> 3 ≠ 0#8 then 6#3 else if s.clkRdy then 2#3 else 0#3) ∧
      (w &&& 7#8 = 2#8 → t.fault = if w >>> 3 ≠ 0#8 then 6#3 else if s.clkRdy then 0#3 else 1#3) ∧
      (w &&& 7#8 = 3#8 → t.fault = if w >>> 3 ≠ 0#8 then 6#3 else 0#3) ∧
      (w &&& 7#8 = 4#8 → t.fault = if w >>> 3 ≠ 0#8 then 6#3 else if s.clkRdy then 0#3 else 1#3) ∧
      (w &&& 7#8 = 5#8 → t.fault =
        if w >>> 3 ≠ 0#8 then 6#3 else if s.clkRdy = false then 1#3 else if s.ctlRdy then 4#3 else 0#3) ∧
      (w &&& 7#8 = 6#8 → t.fault =
        if w >>> 5 ≠ 0#8 then 6#3 else if s.clkRdy = false then 1#3 else if s.ctlRdy = false then 3#3
        else if 24 < s.state.toNat then 7#3 else 0#3)

/-- A fault is precise: an operation that raises one changes FAULT, gives no response, and changes nothing else
(60_exceptions.md rule R201); the same holds of a rejected command word. -/
def Obligations.FaultsArePrecise : Prop :=
  (∀ (i : Instr) (s t : State), exec i s = .next t → s.fault = 0#3 → t.fault ≠ 0#3 →
    t = { s with fault := t.fault, resp := none }) ∧
  (∀ (w : Cmd) (s t : State), runCommand w s = .next t → s.fault = 0#3 → t.fault ≠ 0#3 →
    t = { s with fault := t.fault, resp := none })

/-- A word with a stray reserved bit runs no operation: the step raises RESERVED_BITS and changes nothing else
(30_encoding.md rules R73 and R78). -/
def Obligations.StrayBitsRaiseReservedBits : Prop :=
  ∀ (s : State) (w : Cmd) (rest : List Event), s.pending = .command w :: rest → s.fault = 0#3 →
    w &&& 7#8 ≠ 0#8 → w &&& 7#8 ≠ 7#8 → (w >>> 5 ≠ 0#8 ∨ (w &&& 7#8 ≠ 6#8 ∧ w >>> 3 ≠ 0#8)) →
      step s = .next { s with fault := 6#3, resp := none, pending := rest, draws := s.draws + 1 }

/-- Once FAULT is not 0, every operation of either agent has no effect and gives no response (60_exceptions.md rule R202). -/
def Obligations.HaltedBlockIgnoresOperations : Prop :=
  ∀ s : State, s.fault ≠ 0#3 →
    (∀ i : Instr, exec i s = .next { s with resp := none }) ∧
    (∀ (ev : Event) (rest : List Event), s.pending = ev :: rest → ev ≠ .powerOnReset →
      step s = .next { s with resp := none, pending := rest, draws := s.draws + 1 })

/-- A halted block keeps all ten registers over any number of steps, until a power-on reset (60_exceptions.md rules R202 and
R207). -/
def Obligations.HaltedRunKeepsEveryRegister : Prop :=
  ∀ (k : Nat) (s : State), s.fault ≠ 0#3 → noReset k s →
    ∃ t : State, Host.Core.run Sys2Proof.core k s = .next t ∧
      t = { s with resp := t.resp, pending := s.pending.drop k, draws := t.draws } ∧
      (0 < k → s.pending ≠ [] → t.resp = none)

/-! ## Frames -/

/-- STATE, LAST, STOPPING, OUT and CTL_RDY are owned by the controller's two operations: no other operation writes them
(10_state.md rule R39, 42_controller.md rule R160). -/
def Obligations.OnlyControllerWritesItsContext : Prop :=
  ∀ (i : Instr) (s t : State), exec i s = .next t → i ≠ .ctrlInit → (∀ a b, i ≠ .poll a b) →
    t.state = s.state ∧ t.last = s.last ∧ t.stopping = s.stopping ∧ t.out = s.out ∧ t.ctlRdy = s.ctlRdy

/-- MILLIS and FRAC are written by CLK_INIT and CLK_TICK alone, TICK_EN by TICK_EN alone, CLK_RDY by CLK_INIT alone
(10_state.md rules R20 and R39). -/
def Obligations.OnlyClockOperationsWriteTheClock : Prop :=
  ∀ (i : Instr) (s t : State), exec i s = .next t →
    (i ≠ .clkInit → i ≠ .clkTick → t.millis = s.millis ∧ t.frac = s.frac) ∧
    (i ≠ .tickEn → t.tickEn = s.tickEn) ∧
    (i ≠ .clkInit → t.clkRdy = s.clkRdy) ∧
    (i ≠ .ctrlInit → t.ctlRdy = s.ctlRdy)

/-- A tick touches only MILLIS and FRAC, and never raises a fault (60_exceptions.md rule R208, 40_clock.md rule R103). -/
def Obligations.TickTouchesOnlyTheClock : Prop :=
  ∀ (s t : State) (rest : List Event), s.pending = .tickStrobe :: rest → step s = .next t →
    t = { s with millis := t.millis, frac := t.frac, resp := none, pending := rest, draws := s.draws + 1 }

/-- No operation and no event writes the parameter ROMs or the configuration inputs (00_scope.md rule R8, 10_state.md rules
R35 to R38); no operation touches the model's own event list or draw number. -/
def Obligations.ParametersNeverChange : Prop :=
  (∀ s t : State, step s = .next t → t.params = s.params) ∧
  (∀ (i : Instr) (s t : State), exec i s = .next t →
    t.params = s.params ∧ t.pending = s.pending ∧ t.draws = s.draws)

/-- Only CLK_NOW and POLL respond, CLK_NOW with MILLIS and POLL with one bit, and an operation that raises a fault gives no
response (30_encoding.md rule R76). -/
def Obligations.OnlyClkNowAndPollRespond : Prop :=
  ∀ (i : Instr) (s t : State) (v : BitVec 32), exec i s = .next t → t.resp = some v →
    t.fault = 0#3 ∧
    ((i = .clkNow ∧ v = s.millis) ∨ (∃ a b, i = .poll a b ∧ (v = 0#32 ∨ v = 1#32)))

/-- TRANSITIONED is 1 iff the POLL changed STATE (10_state.md rule R34, 42_controller.md rule R170). -/
def Obligations.TransitionedIffStateChanged : Prop :=
  ∀ (a b : Bool) (s t : State), s.fault = 0#3 → exec (.poll a b) s = .next t → t.fault = 0#3 →
    (t.resp = some 1#32 ↔ t.state ≠ s.state) ∧ (t.resp = some 0#32 ↔ t.state = s.state)

/-- LAST is updated iff STATE changes in the same step: POLL writes it the MILLIS it read exactly when STATE changes
(10_state.md rule R28). -/
def Obligations.LastMovesWithState : Prop :=
  ∀ (a b : Bool) (s t : State), exec (.poll a b) s = .next t →
    (t.state ≠ s.state → t.last = s.millis) ∧ (t.state = s.state → t.last = s.last) ∧ t.millis = s.millis

/-! ## The transition function -/

/-- NEXT, written state by state, is the transition table read top to bottom (41_state_machine.md rule R121). -/
def Obligations.NextFollowsTransitionTable : Prop :=
  ∀ (c : Params) (s : CycleState) (e : Millis) (st sp : Bool), nextState c s e st sp = nextByTable c s e st sp

/-- A dwell guard is inclusive: it holds at DUR_X, fails at DUR_X - 1 when DUR_X is at least 1, and holds for every e when
DUR_X is 0 (41_state_machine.md rule R125). -/
def Obligations.DwellGuardIsInclusive : Prop :=
  ∀ e d : Millis, (dwellReached e d = true ↔ d.toNat ≤ e.toNat) ∧ dwellReached d d = true ∧
    (1 ≤ d.toNat → dwellReached (d - 1) d = false) ∧ (d = 0#32 → dwellReached e d = true)

/-- The abort, the early exit and the drain junctions (41_state_machine.md rules R123, R124 and R126). -/
def Obligations.SignalGuardsComeFirst : Prop :=
  ∀ (c : Params) (e : Millis) (st sp : Bool),
    (∀ s ∈ [CycleState.soakWaterPumping, .soakWaterHeating, .soakWaterHeatedMixing, .soakWaterMixing],
      nextState c s e st true = some .soakWaterDraining) ∧
    nextState c .initialLocking e false sp = some .initialUnlocking ∧
    nextState c .locking e false sp = some .unlocking ∧
    nextState c .soakWaterDraining e st sp =
      (if (c.dur .draining).toNat ≤ e.toNat then some (if sp then .idling else .rinseWaterPumping) else none) ∧
    nextState c .rinseWaterDraining e st sp =
      (if (c.dur .draining).toNat ≤ e.toNat then some (if sp then .idling else .separatorOpening) else none)

/-- NEXT is monotone in the elapsed time: where it stays put, it stays put for every smaller elapsed time; released locking
never stays put; and a dwell guard never becomes false as the elapsed time grows (41_state_machine.md rule R156). -/
def Obligations.NextMonotoneInElapsed : Prop :=
  (∀ (c : Params) (s : CycleState) (e e' : Millis) (st sp : Bool),
    nextState c s e st sp = none → e'.toNat ≤ e.toNat → nextState c s e' st sp = none) ∧
  (∀ (c : Params) (e : Millis) (sp : Bool),
    nextState c .initialLocking e false sp ≠ none ∧ nextState c .locking e false sp ≠ none) ∧
  (∀ e e' d : Millis, dwellReached e d = true → e.toNat ≤ e'.toNat → dwellReached e' d = true)

/-- No state is terminal: every state but the two idle ones is left by elapsed time alone, given st = 1 for the two locking
states, and the idle states are left by st = 1 and by nothing else (41_state_machine.md rule R158). -/
def Obligations.NoStateIsTerminal : Prop :=
  ∀ (c : Params) (s : CycleState) (sp : Bool),
    (s.isIdle = false → ∀ st : Bool, (s = .initialLocking ∨ s = .locking → st = true) →
      ∃ (d : Millis), ∀ e : Millis, d.toNat ≤ e.toNat → ∃ n, nextState c s e st sp = some n) ∧
    (s.isIdle = true → ∀ (e : Millis) (st : Bool), ((∃ n, nextState c s e st sp = some n) ↔ st = true))

/-- The states reachable from InitialDraining, and no way back into the initial setup (41_state_machine.md rule R157). -/
def Obligations.ReachableStates : Prop :=
  ∀ c : Params,
    (c.soakHeatPath = false → ∀ s : CycleState, Reaches c .initialDraining s ↔
      s ≠ .soakWaterHeating ∧ s ≠ .soakWaterHeatedMixing ∧ s ≠ .soakWaterMixing) ∧
    (c.soakHeatPath = true → ∀ s : CycleState, Reaches c .initialDraining s) ∧
    (∀ a b : CycleState, 7 ≤ a.code.toNat → Reaches c a b → 7 ≤ b.code.toNat)

/-! ## Clock laws -/

/-- Elapsed time by wrapping subtraction is the true elapsed time modulo 2^32, and exactly it below one wrap period
(40_clock.md rules R106 and R108). -/
def Obligations.ElapsedAcrossWrap : Prop :=
  ∀ (a b : Millis) (T : Nat),
    a + elapsed b a = b ∧ elapsed (a + BitVec.ofNat 32 T) a = BitVec.ofNat 32 T ∧
      (T < 2 ^ 32 → (elapsed (a + BitVec.ofNat 32 T) a).toNat = T)

/-- The poll-gap bound: from a POLL that saw e below D, a gap of at most 2^32 - D ms cannot wrap the elapsed time, so the next
POLL sees e plus the gap, and the dwell guard holds as soon as that reaches D (70_reset_and_hazards.md rule R253). -/
def Obligations.PollGapBound : Prop :=
  ∀ (now last d : Millis) (gap : Nat), dwellReached (elapsed now last) d = false → gap ≤ 2 ^ 32 - d.toNat →
    (elapsed (now + BitVec.ofNat 32 gap) last).toNat = (elapsed now last).toNat + gap ∧
    (dwellReached (elapsed (now + BitVec.ofNat 32 gap) last) d = true ↔
      d.toNat ≤ (elapsed now last).toNat + gap)

/-- The exactness contract of the clock: over any steps without a reset, with any commands between the ticks, n accepted ticks
advance MILLIS and FRAC by exactly n tick periods; from a CLK_INIT, MILLIS = floor(n * TICK_NUM / TICK_DEN) mod 2^32 and
FRAC = (n * TICK_NUM) mod TICK_DEN, so that MILLIS falls short of the true time by FRAC / TICK_DEN, less than 1 ms
(40_clock.md rules R109 and R110). -/
def Obligations.ClockCountsExactly : Prop :=
  ∀ (k : Nat) (s t : State), 0 < s.params.tickDen → s.clkRdy = true → s.frac < s.params.tickDen → noReset k s →
    Host.Core.run Sys2Proof.core k s = .next t →
      t.millis - s.millis =
        BitVec.ofNat 32 ((s.frac + acceptedTicks k s * s.params.tickNum) / s.params.tickDen) ∧
      t.frac = (s.frac + acceptedTicks k s * s.params.tickNum) % s.params.tickDen ∧
      (s.millis = 0#32 → s.frac = 0 →
        t.millis = BitVec.ofNat 32 (acceptedTicks k s * s.params.tickNum / s.params.tickDen) ∧
        t.frac = acceptedTicks k s * s.params.tickNum % s.params.tickDen ∧
        acceptedTicks k s * s.params.tickNum =
          s.params.tickDen * (acceptedTicks k s * s.params.tickNum / s.params.tickDen) + t.frac ∧
        t.frac < s.params.tickDen)

/-- A tick and a CLK_NOW that come together are taken in either order: the one response is the advanced MILLIS, the other the
MILLIS before the tick, and the clock ends the same (20_memory.md rules R57 and R58). -/
def Obligations.TickAndClkNowInEitherOrder : Prop :=
  ∀ (s : State) (rest : List Event), s.fault = 0#3 → s.clkRdy = true → s.tickEn = true →
    ∃ t u v : State,
      Host.Core.run Sys2Proof.core 2 { s with pending := .tickStrobe :: .command 0x04#8 :: rest } = .next t ∧
      Host.Core.run Sys2Proof.core 1 { s with pending := .command 0x04#8 :: .tickStrobe :: rest } = .next u ∧
      Host.Core.run Sys2Proof.core 2 { s with pending := .command 0x04#8 :: .tickStrobe :: rest } = .next v ∧
      t.resp = some t.millis ∧ u.resp = some s.millis ∧ v.resp = none ∧
      t.millis = s.millis + BitVec.ofNat 32 ((s.frac + s.params.tickNum) / s.params.tickDen) ∧
      v.millis = t.millis ∧ v.frac = t.frac

/-! ## The stop latch and the actuators -/

/-- Once STOPPING = 1 it stays 1, whatever P is, until a POLL's transition arrives at an idle state (10_state.md rule R29,
42_controller.md rule R172(a)). -/
def Obligations.StopLatchPersists : Prop :=
  ∀ (k : Nat) (s t : State), s.ctlRdy = true → s.stopping = true → noReset k s →
    Host.Core.run Sys2Proof.core k s = .next t →
      t.stopping = true ∨
      ∃ (j : Nat) (u v : State), j < k ∧ Host.Core.run Sys2Proof.core j s = .next u ∧ step u = .next v ∧
        v.state ≠ u.state ∧ (v.state = CycleState.initialIdling.code ∨ v.state = CycleState.idling.code)

/-- A stop seen by one POLL takes effect in the same POLL: in a soak state it aborts to SoakWaterDraining at once, whatever the
elapsed time, and stays latched (42_controller.md rule R165, 41_state_machine.md rule R123). -/
def Obligations.StopAbortsSoakAtOnce : Prop :=
  ∀ (startPin stopPin : Bool) (s : State), s.fault = 0#3 → s.clkRdy = true → s.ctlRdy = true →
    (s.state = 7#5 ∨ s.state = 8#5 ∨ s.state = 9#5 ∨ s.state = 10#5) → (stopPin = false ∨ s.stopping = true) →
      ∃ t : State, exec (.poll startPin stopPin) s = .next t ∧ t.state = 11#5 ∧ t.stopping = true ∧
        t.last = s.millis ∧ t.resp = some 1#32

/-- Under ACTIONS_SYMMETRIC, where OUT is the current state's mask, the explicit form "assert on entry, deassert on exit" gives
the same OUT as the block's xor, and that is the new state's mask (42_controller.md rule R171). -/
def Obligations.ExplicitFormGivesSameOutputs : Prop :=
  ∀ (c : Params) (old n : CycleState) (out : ActMask), c.symmetric = true → out = c.entryMaskOf old →
    transitionOut c old n out = transitionOutExplicit c old n out ∧ transitionOut c old n out = c.entryMaskOf n

/-! ## Invariants and whole runs -/

/-- Every step keeps the clock's invariant (10_state.md rules R24 and R40(d), 70_reset_and_hazards.md rule R251). -/
def Obligations.StepKeepsClockInvariant : Prop :=
  ∀ s t : State, clockInv s → step s = .next t → clockInv t

/-- Every step keeps the controller's invariant: a legal STATE, and OUT the mask of STATE under ACTIONS_SYMMETRIC
(10_state.md rule R40, 42_controller.md rule R171). -/
def Obligations.StepKeepsControllerInvariant : Prop :=
  ∀ s t : State, controllerInv s → step s = .next t → controllerInv t

/-- Every step keeps the heating and mixing states out of reach while SOAK_HEAT_PATH = 0, and after the initial setup no step
but a power-on reset leads back into it (41_state_machine.md rule R157). -/
def Obligations.StepKeepsHeatPathClosed : Prop :=
  (∀ s t : State, noHeatInv s → step s = .next t → noHeatInv t) ∧
  (∀ s t : State, step s = .next t → noReset 1 s → s.ctlRdy = true → 7 ≤ s.state.toNat → 7 ≤ t.state.toNat)

/-- The power-on state of any well-formed parameters, and State.reset, meet the three invariants. -/
def Obligations.PowerOnMeetsInvariants : Prop :=
  (∀ (c : Params) (n : Nat) (evs : List Event), c.wf = true →
    clockInv (State.powerOn c n evs) ∧ controllerInv (State.powerOn c n evs) ∧ noHeatInv (State.powerOn c n evs)) ∧
  clockInv State.reset ∧ controllerInv State.reset ∧ noHeatInv State.reset

/-- The boot sequence from power-on, with any number j of ticks between TICK_EN and CTRL_INIT, and its other order
(70_reset_and_hazards.md rules R241 and R242). -/
def Obligations.BootSequenceCompletes : Prop :=
  (∀ (c : Params) (n j : Nat) (rest : List Event), c.wf = true →
    ∃ t : State,
      Host.Core.run Sys2Proof.core (3 + j) (State.powerOn c n
        (.command 0x01#8 :: .command 0x02#8 :: (List.replicate j .tickStrobe ++ .command 0x05#8 :: rest))) = .next t ∧
      t.fault = 0#3 ∧ t.clkRdy = true ∧ t.tickEn = true ∧ t.ctlRdy = true ∧ t.state = 0#5 ∧ t.stopping = false ∧
      t.millis = BitVec.ofNat 32 (j * c.tickNum / c.tickDen) ∧ t.last = t.millis ∧
      t.out = c.entryMask.get 0 ∧ t.pending = rest) ∧
  (∀ (c : Params) (n : Nat) (rest : List Event),
    ∃ t : State,
      Host.Core.run Sys2Proof.core 3 (State.powerOn c n
        (.command 0x01#8 :: .command 0x05#8 :: .command 0x02#8 :: rest)) = .next t ∧
      t.fault = 0#3 ∧ t.clkRdy = true ∧ t.tickEn = true ∧ t.ctlRdy = true ∧ t.state = 0#5 ∧ t.stopping = false ∧
      t.last = 0#32 ∧ t.out = c.entryMask.get 0 ∧ t.pending = rest)

/-- An idle state is kept for ever while no POLL sees start active, whatever else happens short of a reset: STATE, LAST and OUT
stay as they are (41_state_machine.md rules R131 and R152, 70_reset_and_hazards.md rules R254 and R255). -/
def Obligations.IdleHoldsWhileStartInactive : Prop :=
  ∀ (k : Nat) (s t : State), s.ctlRdy = true →
    (s.state = CycleState.initialIdling.code ∨ s.state = CycleState.idling.code) → noReset k s →
    (∀ ev ∈ s.pending.take k, pollsWithStart s.params ev = false) →
    Host.Core.run Sys2Proof.core k s = .next t →
      t.state = s.state ∧ t.last = s.last ∧ t.out = s.out

/-- No fault is ever raised under an environment that does its duty (70_reset_and_hazards.md rules R241 and R244): from the
power-on state of any well-formed parameters, with any ticks, any pin levels and any number of steps, the judged machine, for
which a halted block is a fault outcome, goes on. How a duty is read is notes/assumptions 18. -/
def Obligations.DutifulRunNeverFaults : Prop :=
  ∀ (c : Params) (n k : Nat) (evs : List Event), c.wf = true → dutiful evs = true →
    ∃ t : State, Host.Core.run judgedCore k (State.powerOn c n evs) = .next t ∧ t.fault = 0#3

/-! ## Configuration and ports -/

/-- A duration table with a missing entry is refused at configuration time; a parameter set with one entry for each name and a
positive tick period is accepted, is well-formed, and gives each name its one value (00_scope.md rule R8,
93_implementation_defined.md section 1). The shape of what is offered is the model's (notes/assumptions 16). -/
def Obligations.ConfigurationRefusesMissingDuration : Prop :=
  (∀ (raw : Config.Raw) (d : DurName), (∀ v : Millis, (d, v) ∉ raw.durations) →
    ∃ r : Config.Refused, Config.configure raw = .refused r) ∧
  (∀ raw : Config.Raw, 0 < raw.tickNum → 0 < raw.tickDen → (∀ d : DurName, ∃ v : Millis, raw.entries d = [v]) →
    ∃ c : Params, Config.configure raw = .params c ∧ c.wf = true ∧
      (∀ (d : DurName) (v : Millis), (d, v) ∈ raw.durations → c.dur d = v))

/-- The response of CLK_NOW on a narrower port goes least significant byte first (20_memory.md rule R52): bit j of the i-th
byte is bit 8i + j of the value. -/
def Obligations.SerialisedLeastSignificantFirst : Prop :=
  ∀ v : BitVec 32, (serialise v).length = 4 ∧
    ∀ i j : Nat, i < 4 → j < 8 → ((serialise v).getD i 0).getLsbD j = v.getLsbD (8 * i + j)

/-- The ports show OUT and FAULT continuously, and each bit of OUT drives the actuator that the bit table names
(60_exceptions.md rule R211, 10_state.md rules R31 and R33). -/
def Obligations.PortsShowOutAndFault : Prop :=
  ∀ s : State, s.ports.out = s.out ∧ s.ports.faultCode = s.fault ∧ (∀ v, s.resp = some v → s.ports.resp = v) ∧
    (∀ a : Actuator, s.actuator a = true ↔ s.out &&& a.mask ≠ 0#11) ∧
    [Actuator.lowerDrainPump, .upperDrainPump, .blender, .heater, .mixer, .separatorHatchEnable,
      .separatorHatchDirection, .inputHatchLockEnable, .inputHatchLockDirection, .waterPump,
      .readyIndicator].map Actuator.mask =
      [0x001, 0x002, 0x004, 0x008, 0x010, 0x020, 0x040, 0x080, 0x100, 0x200, 0x400]

/-! ## The environment's duty, step by step -/

/-- Every step of the judged machine keeps the duty's invariant, so that none of them is a fault outcome: from every state that
stands where a phase of the boot sequence leaves it, with a dutiful rest of its events, the judged step goes on to such a state
(70_reset_and_hazards.md rules R241 and R244). How a duty is read is notes/assumptions 18, and how a halted block is rendered
notes/assumptions 1. -/
def Obligations.StepKeepsDutyInvariant : Prop :=
  ∀ s : State, dutyInv s → ∃ t : State, judgedStep s = .next t ∧ dutyInv t

/-- The power-on state, of any parameters and with any dutiful events to come, meets the duty's invariant, at the phase off
(10_state.md rule R41). How a duty is read is notes/assumptions 18. -/
def Obligations.PowerOnMeetsDutyInvariant : Prop :=
  ∀ (c : Params) (n : Nat) (evs : List Event), dutiful evs = true →
    phaseInv .off (State.powerOn c n evs) ∧ dutyInv (State.powerOn c n evs)
end

