-- ==== Sys2Proof/Laws/State.lean ====
section
/-! SUPPORT. One lemma per field per named update of State: what the update leaves in that field. -/

namespace Sys2Proof.Machine

@[simp] theorem silent_millis (s : State) : (silent s).millis = s.millis := rfl
@[simp] theorem silent_frac (s : State) : (silent s).frac = s.frac := rfl
@[simp] theorem silent_tickEn (s : State) : (silent s).tickEn = s.tickEn := rfl
@[simp] theorem silent_clkRdy (s : State) : (silent s).clkRdy = s.clkRdy := rfl
@[simp] theorem silent_ctlRdy (s : State) : (silent s).ctlRdy = s.ctlRdy := rfl
@[simp] theorem silent_state (s : State) : (silent s).state = s.state := rfl
@[simp] theorem silent_last (s : State) : (silent s).last = s.last := rfl
@[simp] theorem silent_stopping (s : State) : (silent s).stopping = s.stopping := rfl
@[simp] theorem silent_out (s : State) : (silent s).out = s.out := rfl
@[simp] theorem silent_fault (s : State) : (silent s).fault = s.fault := rfl
@[simp] theorem silent_params (s : State) : (silent s).params = s.params := rfl
@[simp] theorem silent_resp (s : State) : (silent s).resp = none := rfl
@[simp] theorem silent_pending (s : State) : (silent s).pending = s.pending := rfl
@[simp] theorem silent_draws (s : State) : (silent s).draws = s.draws := rfl

@[simp] theorem respond_millis (v : BitVec 32) (s : State) : (respond v s).millis = s.millis := rfl
@[simp] theorem respond_frac (v : BitVec 32) (s : State) : (respond v s).frac = s.frac := rfl
@[simp] theorem respond_tickEn (v : BitVec 32) (s : State) : (respond v s).tickEn = s.tickEn := rfl
@[simp] theorem respond_clkRdy (v : BitVec 32) (s : State) : (respond v s).clkRdy = s.clkRdy := rfl
@[simp] theorem respond_ctlRdy (v : BitVec 32) (s : State) : (respond v s).ctlRdy = s.ctlRdy := rfl
@[simp] theorem respond_state (v : BitVec 32) (s : State) : (respond v s).state = s.state := rfl
@[simp] theorem respond_last (v : BitVec 32) (s : State) : (respond v s).last = s.last := rfl
@[simp] theorem respond_stopping (v : BitVec 32) (s : State) : (respond v s).stopping = s.stopping := rfl
@[simp] theorem respond_out (v : BitVec 32) (s : State) : (respond v s).out = s.out := rfl
@[simp] theorem respond_fault (v : BitVec 32) (s : State) : (respond v s).fault = s.fault := rfl
@[simp] theorem respond_params (v : BitVec 32) (s : State) : (respond v s).params = s.params := rfl
@[simp] theorem respond_resp (v : BitVec 32) (s : State) : (respond v s).resp = some v := rfl
@[simp] theorem respond_pending (v : BitVec 32) (s : State) : (respond v s).pending = s.pending := rfl
@[simp] theorem respond_draws (v : BitVec 32) (s : State) : (respond v s).draws = s.draws := rfl

@[simp] theorem raiseFault_millis (f : Fault) (s : State) : (raiseFault f s).millis = s.millis := rfl
@[simp] theorem raiseFault_frac (f : Fault) (s : State) : (raiseFault f s).frac = s.frac := rfl
@[simp] theorem raiseFault_tickEn (f : Fault) (s : State) : (raiseFault f s).tickEn = s.tickEn := rfl
@[simp] theorem raiseFault_clkRdy (f : Fault) (s : State) : (raiseFault f s).clkRdy = s.clkRdy := rfl
@[simp] theorem raiseFault_ctlRdy (f : Fault) (s : State) : (raiseFault f s).ctlRdy = s.ctlRdy := rfl
@[simp] theorem raiseFault_state (f : Fault) (s : State) : (raiseFault f s).state = s.state := rfl
@[simp] theorem raiseFault_last (f : Fault) (s : State) : (raiseFault f s).last = s.last := rfl
@[simp] theorem raiseFault_stopping (f : Fault) (s : State) : (raiseFault f s).stopping = s.stopping := rfl
@[simp] theorem raiseFault_out (f : Fault) (s : State) : (raiseFault f s).out = s.out := rfl
@[simp] theorem raiseFault_fault (f : Fault) (s : State) : (raiseFault f s).fault = f.code := rfl
@[simp] theorem raiseFault_params (f : Fault) (s : State) : (raiseFault f s).params = s.params := rfl
@[simp] theorem raiseFault_resp (f : Fault) (s : State) : (raiseFault f s).resp = none := rfl
@[simp] theorem raiseFault_pending (f : Fault) (s : State) : (raiseFault f s).pending = s.pending := rfl
@[simp] theorem raiseFault_draws (f : Fault) (s : State) : (raiseFault f s).draws = s.draws := rfl

@[simp] theorem startClock_millis (s : State) : (startClock s).millis = 0#32 := rfl
@[simp] theorem startClock_frac (s : State) : (startClock s).frac = 0 := rfl
@[simp] theorem startClock_tickEn (s : State) : (startClock s).tickEn = s.tickEn := rfl
@[simp] theorem startClock_clkRdy (s : State) : (startClock s).clkRdy = true := rfl
@[simp] theorem startClock_ctlRdy (s : State) : (startClock s).ctlRdy = s.ctlRdy := rfl
@[simp] theorem startClock_state (s : State) : (startClock s).state = s.state := rfl
@[simp] theorem startClock_last (s : State) : (startClock s).last = s.last := rfl
@[simp] theorem startClock_stopping (s : State) : (startClock s).stopping = s.stopping := rfl
@[simp] theorem startClock_out (s : State) : (startClock s).out = s.out := rfl
@[simp] theorem startClock_fault (s : State) : (startClock s).fault = s.fault := rfl
@[simp] theorem startClock_params (s : State) : (startClock s).params = s.params := rfl
@[simp] theorem startClock_resp (s : State) : (startClock s).resp = none := rfl
@[simp] theorem startClock_pending (s : State) : (startClock s).pending = s.pending := rfl
@[simp] theorem startClock_draws (s : State) : (startClock s).draws = s.draws := rfl

@[simp] theorem enableTick_millis (s : State) : (enableTick s).millis = s.millis := rfl
@[simp] theorem enableTick_frac (s : State) : (enableTick s).frac = s.frac := rfl
@[simp] theorem enableTick_tickEn (s : State) : (enableTick s).tickEn = true := rfl
@[simp] theorem enableTick_clkRdy (s : State) : (enableTick s).clkRdy = s.clkRdy := rfl
@[simp] theorem enableTick_ctlRdy (s : State) : (enableTick s).ctlRdy = s.ctlRdy := rfl
@[simp] theorem enableTick_state (s : State) : (enableTick s).state = s.state := rfl
@[simp] theorem enableTick_last (s : State) : (enableTick s).last = s.last := rfl
@[simp] theorem enableTick_stopping (s : State) : (enableTick s).stopping = s.stopping := rfl
@[simp] theorem enableTick_out (s : State) : (enableTick s).out = s.out := rfl
@[simp] theorem enableTick_fault (s : State) : (enableTick s).fault = s.fault := rfl
@[simp] theorem enableTick_params (s : State) : (enableTick s).params = s.params := rfl
@[simp] theorem enableTick_resp (s : State) : (enableTick s).resp = none := rfl
@[simp] theorem enableTick_pending (s : State) : (enableTick s).pending = s.pending := rfl
@[simp] theorem enableTick_draws (s : State) : (enableTick s).draws = s.draws := rfl

@[simp] theorem advanceClock_millis (s : State) : (advanceClock s).millis = tickMillis s.params s.millis s.frac := rfl
@[simp] theorem advanceClock_frac (s : State) : (advanceClock s).frac = tickFrac s.params s.frac := rfl
@[simp] theorem advanceClock_tickEn (s : State) : (advanceClock s).tickEn = s.tickEn := rfl
@[simp] theorem advanceClock_clkRdy (s : State) : (advanceClock s).clkRdy = s.clkRdy := rfl
@[simp] theorem advanceClock_ctlRdy (s : State) : (advanceClock s).ctlRdy = s.ctlRdy := rfl
@[simp] theorem advanceClock_state (s : State) : (advanceClock s).state = s.state := rfl
@[simp] theorem advanceClock_last (s : State) : (advanceClock s).last = s.last := rfl
@[simp] theorem advanceClock_stopping (s : State) : (advanceClock s).stopping = s.stopping := rfl
@[simp] theorem advanceClock_out (s : State) : (advanceClock s).out = s.out := rfl
@[simp] theorem advanceClock_fault (s : State) : (advanceClock s).fault = s.fault := rfl
@[simp] theorem advanceClock_params (s : State) : (advanceClock s).params = s.params := rfl
@[simp] theorem advanceClock_resp (s : State) : (advanceClock s).resp = none := rfl
@[simp] theorem advanceClock_pending (s : State) : (advanceClock s).pending = s.pending := rfl
@[simp] theorem advanceClock_draws (s : State) : (advanceClock s).draws = s.draws := rfl

@[simp] theorem construct_millis (s : State) : (construct s).millis = s.millis := rfl
@[simp] theorem construct_frac (s : State) : (construct s).frac = s.frac := rfl
@[simp] theorem construct_tickEn (s : State) : (construct s).tickEn = s.tickEn := rfl
@[simp] theorem construct_clkRdy (s : State) : (construct s).clkRdy = s.clkRdy := rfl
@[simp] theorem construct_ctlRdy (s : State) : (construct s).ctlRdy = true := rfl
@[simp] theorem construct_state (s : State) : (construct s).state = 0#5 := rfl
@[simp] theorem construct_last (s : State) : (construct s).last = s.millis := rfl
@[simp] theorem construct_stopping (s : State) : (construct s).stopping = false := rfl
@[simp] theorem construct_out (s : State) : (construct s).out = entryAction s.params .initialDraining s.out := rfl
@[simp] theorem construct_fault (s : State) : (construct s).fault = s.fault := rfl
@[simp] theorem construct_params (s : State) : (construct s).params = s.params := rfl
@[simp] theorem construct_resp (s : State) : (construct s).resp = none := rfl
@[simp] theorem construct_pending (s : State) : (construct s).pending = s.pending := rfl
@[simp] theorem construct_draws (s : State) : (construct s).draws = s.draws := rfl

@[simp] theorem stayPut_millis (sp : Bool) (s : State) : (stayPut sp s).millis = s.millis := rfl
@[simp] theorem stayPut_frac (sp : Bool) (s : State) : (stayPut sp s).frac = s.frac := rfl
@[simp] theorem stayPut_tickEn (sp : Bool) (s : State) : (stayPut sp s).tickEn = s.tickEn := rfl
@[simp] theorem stayPut_clkRdy (sp : Bool) (s : State) : (stayPut sp s).clkRdy = s.clkRdy := rfl
@[simp] theorem stayPut_ctlRdy (sp : Bool) (s : State) : (stayPut sp s).ctlRdy = s.ctlRdy := rfl
@[simp] theorem stayPut_state (sp : Bool) (s : State) : (stayPut sp s).state = s.state := rfl
@[simp] theorem stayPut_last (sp : Bool) (s : State) : (stayPut sp s).last = s.last := rfl
@[simp] theorem stayPut_stopping (sp : Bool) (s : State) : (stayPut sp s).stopping = sp := rfl
@[simp] theorem stayPut_out (sp : Bool) (s : State) : (stayPut sp s).out = s.out := rfl
@[simp] theorem stayPut_fault (sp : Bool) (s : State) : (stayPut sp s).fault = s.fault := rfl
@[simp] theorem stayPut_params (sp : Bool) (s : State) : (stayPut sp s).params = s.params := rfl
@[simp] theorem stayPut_resp (sp : Bool) (s : State) : (stayPut sp s).resp = some (transitionedResp false) := rfl
@[simp] theorem stayPut_pending (sp : Bool) (s : State) : (stayPut sp s).pending = s.pending := rfl
@[simp] theorem stayPut_draws (sp : Bool) (s : State) : (stayPut sp s).draws = s.draws := rfl

@[simp] theorem moveTo_millis (cur n : CycleState) (sp : Bool) (s : State) : (moveTo cur n sp s).millis = s.millis := rfl
@[simp] theorem moveTo_frac (cur n : CycleState) (sp : Bool) (s : State) : (moveTo cur n sp s).frac = s.frac := rfl
@[simp] theorem moveTo_tickEn (cur n : CycleState) (sp : Bool) (s : State) : (moveTo cur n sp s).tickEn = s.tickEn := rfl
@[simp] theorem moveTo_clkRdy (cur n : CycleState) (sp : Bool) (s : State) : (moveTo cur n sp s).clkRdy = s.clkRdy := rfl
@[simp] theorem moveTo_ctlRdy (cur n : CycleState) (sp : Bool) (s : State) : (moveTo cur n sp s).ctlRdy = s.ctlRdy := rfl
@[simp] theorem moveTo_state (cur n : CycleState) (sp : Bool) (s : State) : (moveTo cur n sp s).state = n.code := rfl
@[simp] theorem moveTo_last (cur n : CycleState) (sp : Bool) (s : State) : (moveTo cur n sp s).last = s.millis := rfl
@[simp] theorem moveTo_stopping (cur n : CycleState) (sp : Bool) (s : State) : (moveTo cur n sp s).stopping = latchOnArrival n sp := rfl
@[simp] theorem moveTo_out (cur n : CycleState) (sp : Bool) (s : State) : (moveTo cur n sp s).out = transitionOut s.params cur n s.out := rfl
@[simp] theorem moveTo_fault (cur n : CycleState) (sp : Bool) (s : State) : (moveTo cur n sp s).fault = s.fault := rfl
@[simp] theorem moveTo_params (cur n : CycleState) (sp : Bool) (s : State) : (moveTo cur n sp s).params = s.params := rfl
@[simp] theorem moveTo_resp (cur n : CycleState) (sp : Bool) (s : State) : (moveTo cur n sp s).resp = some (transitionedResp true) := rfl
@[simp] theorem moveTo_pending (cur n : CycleState) (sp : Bool) (s : State) : (moveTo cur n sp s).pending = s.pending := rfl
@[simp] theorem moveTo_draws (cur n : CycleState) (sp : Bool) (s : State) : (moveTo cur n sp s).draws = s.draws := rfl

@[simp] theorem takeEvent_millis (rest : List Event) (s : State) : (takeEvent rest s).millis = s.millis := rfl
@[simp] theorem takeEvent_frac (rest : List Event) (s : State) : (takeEvent rest s).frac = s.frac := rfl
@[simp] theorem takeEvent_tickEn (rest : List Event) (s : State) : (takeEvent rest s).tickEn = s.tickEn := rfl
@[simp] theorem takeEvent_clkRdy (rest : List Event) (s : State) : (takeEvent rest s).clkRdy = s.clkRdy := rfl
@[simp] theorem takeEvent_ctlRdy (rest : List Event) (s : State) : (takeEvent rest s).ctlRdy = s.ctlRdy := rfl
@[simp] theorem takeEvent_state (rest : List Event) (s : State) : (takeEvent rest s).state = s.state := rfl
@[simp] theorem takeEvent_last (rest : List Event) (s : State) : (takeEvent rest s).last = s.last := rfl
@[simp] theorem takeEvent_stopping (rest : List Event) (s : State) : (takeEvent rest s).stopping = s.stopping := rfl
@[simp] theorem takeEvent_out (rest : List Event) (s : State) : (takeEvent rest s).out = s.out := rfl
@[simp] theorem takeEvent_fault (rest : List Event) (s : State) : (takeEvent rest s).fault = s.fault := rfl
@[simp] theorem takeEvent_params (rest : List Event) (s : State) : (takeEvent rest s).params = s.params := rfl
@[simp] theorem takeEvent_resp (rest : List Event) (s : State) : (takeEvent rest s).resp = s.resp := rfl
@[simp] theorem takeEvent_pending (rest : List Event) (s : State) : (takeEvent rest s).pending = rest := rfl
@[simp] theorem takeEvent_draws (rest : List Event) (s : State) : (takeEvent rest s).draws = s.draws + 1 := rfl

@[simp] theorem presentNext_millis (ev : Event) (s : State) : (presentNext ev s).millis = s.millis := rfl
@[simp] theorem presentNext_frac (ev : Event) (s : State) : (presentNext ev s).frac = s.frac := rfl
@[simp] theorem presentNext_tickEn (ev : Event) (s : State) : (presentNext ev s).tickEn = s.tickEn := rfl
@[simp] theorem presentNext_clkRdy (ev : Event) (s : State) : (presentNext ev s).clkRdy = s.clkRdy := rfl
@[simp] theorem presentNext_ctlRdy (ev : Event) (s : State) : (presentNext ev s).ctlRdy = s.ctlRdy := rfl
@[simp] theorem presentNext_state (ev : Event) (s : State) : (presentNext ev s).state = s.state := rfl
@[simp] theorem presentNext_last (ev : Event) (s : State) : (presentNext ev s).last = s.last := rfl
@[simp] theorem presentNext_stopping (ev : Event) (s : State) : (presentNext ev s).stopping = s.stopping := rfl
@[simp] theorem presentNext_out (ev : Event) (s : State) : (presentNext ev s).out = s.out := rfl
@[simp] theorem presentNext_fault (ev : Event) (s : State) : (presentNext ev s).fault = s.fault := rfl
@[simp] theorem presentNext_params (ev : Event) (s : State) : (presentNext ev s).params = s.params := rfl
@[simp] theorem presentNext_resp (ev : Event) (s : State) : (presentNext ev s).resp = s.resp := rfl
@[simp] theorem presentNext_pending (ev : Event) (s : State) : (presentNext ev s).pending = ev :: s.pending := rfl
@[simp] theorem presentNext_draws (ev : Event) (s : State) : (presentNext ev s).draws = s.draws := rfl

@[simp] theorem powerOnReset_millis (s : State) : (powerOnReset s).millis = Config.drawMillis s.draws := rfl
@[simp] theorem powerOnReset_frac (s : State) : (powerOnReset s).frac = Config.drawFrac s.draws := rfl
@[simp] theorem powerOnReset_tickEn (s : State) : (powerOnReset s).tickEn = false := rfl
@[simp] theorem powerOnReset_clkRdy (s : State) : (powerOnReset s).clkRdy = false := rfl
@[simp] theorem powerOnReset_ctlRdy (s : State) : (powerOnReset s).ctlRdy = false := rfl
@[simp] theorem powerOnReset_state (s : State) : (powerOnReset s).state = Config.drawState s.draws := rfl
@[simp] theorem powerOnReset_last (s : State) : (powerOnReset s).last = Config.drawLast s.draws := rfl
@[simp] theorem powerOnReset_stopping (s : State) : (powerOnReset s).stopping = Config.drawStopping s.draws := rfl
@[simp] theorem powerOnReset_out (s : State) : (powerOnReset s).out = 0#11 := rfl
@[simp] theorem powerOnReset_fault (s : State) : (powerOnReset s).fault = 0#3 := rfl
@[simp] theorem powerOnReset_params (s : State) : (powerOnReset s).params = s.params := rfl
@[simp] theorem powerOnReset_resp (s : State) : (powerOnReset s).resp = none := rfl
@[simp] theorem powerOnReset_pending (s : State) : (powerOnReset s).pending = s.pending := rfl
@[simp] theorem powerOnReset_draws (s : State) : (powerOnReset s).draws = s.draws := rfl

@[simp] theorem powerOn_millis (c : Params) (n : Nat) (evs : List Event) : (State.powerOn c n evs).millis = Config.drawMillis n := rfl
@[simp] theorem powerOn_frac (c : Params) (n : Nat) (evs : List Event) : (State.powerOn c n evs).frac = Config.drawFrac n := rfl
@[simp] theorem powerOn_tickEn (c : Params) (n : Nat) (evs : List Event) : (State.powerOn c n evs).tickEn = false := rfl
@[simp] theorem powerOn_clkRdy (c : Params) (n : Nat) (evs : List Event) : (State.powerOn c n evs).clkRdy = false := rfl
@[simp] theorem powerOn_ctlRdy (c : Params) (n : Nat) (evs : List Event) : (State.powerOn c n evs).ctlRdy = false := rfl
@[simp] theorem powerOn_state (c : Params) (n : Nat) (evs : List Event) : (State.powerOn c n evs).state = Config.drawState n := rfl
@[simp] theorem powerOn_last (c : Params) (n : Nat) (evs : List Event) : (State.powerOn c n evs).last = Config.drawLast n := rfl
@[simp] theorem powerOn_stopping (c : Params) (n : Nat) (evs : List Event) : (State.powerOn c n evs).stopping = Config.drawStopping n := rfl
@[simp] theorem powerOn_out (c : Params) (n : Nat) (evs : List Event) : (State.powerOn c n evs).out = 0#11 := rfl
@[simp] theorem powerOn_fault (c : Params) (n : Nat) (evs : List Event) : (State.powerOn c n evs).fault = 0#3 := rfl
@[simp] theorem powerOn_params (c : Params) (n : Nat) (evs : List Event) : (State.powerOn c n evs).params = c := rfl
@[simp] theorem powerOn_resp (c : Params) (n : Nat) (evs : List Event) : (State.powerOn c n evs).resp = none := rfl
@[simp] theorem powerOn_pending (c : Params) (n : Nat) (evs : List Event) : (State.powerOn c n evs).pending = evs := rfl
@[simp] theorem powerOn_draws (c : Params) (n : Nat) (evs : List Event) : (State.powerOn c n evs).draws = n := rfl

end Sys2Proof.Machine
end

