-- ==== Sys2Proof/Laws/Ops.lean ====
section
/-! SUPPORT. For each shared operation one lemma that says everything it can do, with the small facts about codes, latches,
masks and the decoder that proofs about the machine cite instead of unfolding definitions. -/

namespace Sys2Proof

/-! ## Codes -/

@[simp] theorem CycleState.ofCode_code (s : CycleState) : CycleState.ofCode s.code = some s := by
  cases s <;> rfl

theorem CycleState.code_injective {a b : CycleState} (h : a.code = b.code) : a = b :=
  Option.some.inj (by rw [← CycleState.ofCode_code a, h, CycleState.ofCode_code b])

@[simp] theorem CycleState.code_eq_iff (a b : CycleState) : a.code = b.code ↔ a = b :=
  ⟨CycleState.code_injective, fun h => h ▸ rfl⟩

theorem CycleState.code_le (s : CycleState) : s.code.toNat ≤ 24 := by
  cases s <;> decide

/-- Reading a state code: either it is above 24 and names no state, or it is the code of the state it names. -/
theorem CycleState.ofCode_cases (k : StateCode) :
    (24 < k.toNat ∧ CycleState.ofCode k = none) ∨
    (k.toNat ≤ 24 ∧ ∃ s : CycleState, CycleState.ofCode k = some s ∧ k = s.code) := by
  cases h : CycleState.ofCode k with
  | none =>
    refine Or.inl ⟨?_, rfl⟩
    revert h k
    decide
  | some s =>
    have hk : ∀ k : StateCode, (CycleState.ofCode k).elim k CycleState.code = k := by decide
    have hs : k = s.code := by
      have := hk k
      rw [h] at this
      exact this.symm
    exact Or.inr ⟨hs ▸ s.code_le, s, rfl, hs⟩

namespace Machine

@[simp] theorem Fault.ofCode_code (f : Fault) : Fault.ofCode f.code = some f := by
  cases f <;> rfl

theorem Fault.code_ne_zero (f : Fault) : f.code ≠ 0#3 := by
  cases f <;> decide

@[simp] theorem Fault.ofCode_zero : Fault.ofCode 0#3 = none := rfl

/-- Reading FAULT: code 0 records no fault, every other code is the code of the fault it records. -/
theorem Fault.ofCode_cases (k : FaultCode) :
    (k = 0#3 ∧ Fault.ofCode k = none) ∨ (k ≠ 0#3 ∧ ∃ f : Fault, Fault.ofCode k = some f ∧ k = f.code) := by
  cases h : Fault.ofCode k with
  | none =>
    refine Or.inl ⟨?_, rfl⟩
    revert h k
    decide
  | some f =>
    have hk : ∀ k : FaultCode, (Fault.ofCode k).elim k Fault.code = k := by decide
    have hf : k = f.code := by
      have := hk k
      rw [h] at this
      exact this.symm
    exact Or.inr ⟨hf ▸ f.code_ne_zero, f, rfl, hf⟩

/-! ## The operation frame -/

/-- A halted block's operation has no effect. -/
@[simp] theorem operation_of_halted {s : State} {body : State → State} (h : ¬ s.fault = 0#3) :
    operation s body = .next (silent s) := by
  simp only [operation, h, if_false]

/-- A running block's operation is its body. -/
@[simp] theorem operation_of_running {s : State} {body : State → State} (h : s.fault = 0#3) :
    operation s body = .next (body s) := by
  simp only [operation, h, if_true]

/-- Everything an operation can do. -/
theorem operation_cases {s t : State} {body : State → State} (h : operation s body = .next t) :
    (s.fault = 0#3 ∧ t = body s) ∨ (s.fault ≠ 0#3 ∧ t = silent s) := by
  by_cases hf : s.fault = 0#3
  · rw [operation_of_running hf] at h
    cases h
    exact Or.inl ⟨hf, rfl⟩
  · rw [operation_of_halted hf] at h
    cases h
    exact Or.inr ⟨hf, rfl⟩

/-! ## Clock arithmetic -/

theorem dwellReached_iff (e d : Millis) : dwellReached e d = true ↔ d.toNat ≤ e.toNat := by
  simp [dwellReached, geW, BitVec.ule]

theorem tickFrac_lt {c : Params} (h : 0 < c.tickDen) (frac : Nat) : tickFrac c frac < c.tickDen :=
  Nat.mod_lt _ h

/-! ## The latch and the actuators -/

@[simp] theorem latchStop_active (stopping : Bool) : latchStop stopping true = true := by
  cases stopping <;> rfl

@[simp] theorem latchStop_latched (active : Bool) : latchStop true active = true := rfl

@[simp] theorem latchOnArrival_idle {n : CycleState} (h : n.isIdle = true) (sp : Bool) : latchOnArrival n sp = false := by
  simp [latchOnArrival, h]

@[simp] theorem latchOnArrival_busy {n : CycleState} (h : n.isIdle = false) (sp : Bool) : latchOnArrival n sp = sp := by
  simp [latchOnArrival, h]

theorem isIdle_iff (n : CycleState) : n.isIdle = true ↔ n = .initialIdling ∨ n = .idling := by
  cases n <;> decide

theorem transitionOut_eq (c : Params) (old n : CycleState) (out : ActMask) :
    transitionOut c old n out = out ^^^ c.exitMaskOf old ^^^ c.entryMaskOf n := rfl

@[simp] theorem transitionedResp_false : transitionedResp false = 0#32 := rfl

@[simp] theorem transitionedResp_true : transitionedResp true = 1#32 := rfl

/-! ## NEXT -/

/-- Everything a dwell exit can answer. -/
theorem dwellExit_eq_some_iff (c : Params) (e : Millis) (d : DurName) (n m : CycleState) :
    dwellExit c e d n = some m ↔ dwellReached e (c.dur d) = true ∧ n = m := by
  by_cases h : dwellReached e (c.dur d) = true <;> simp [dwellExit, h]

theorem dwellExit_eq_none_iff (c : Params) (e : Millis) (d : DurName) (n : CycleState) :
    dwellExit c e d n = none ↔ dwellReached e (c.dur d) = false := by
  by_cases h : dwellReached e (c.dur d) = true <;> simp [dwellExit, h]

/-! ## POLL -/

/-- Everything a POLL can do on a running block. -/
theorem execPoll_cases {a b : Bool} {s t : State} (hf : s.fault = 0#3) (h : execPoll a b s = .next t) :
    (s.clkRdy = false ∧ t = raiseFault .clockUninit s) ∨
    (s.clkRdy = true ∧ s.ctlRdy = false ∧ t = raiseFault .ctrlUninit s) ∨
    (s.clkRdy = true ∧ s.ctlRdy = true ∧ 24 < s.state.toNat ∧ t = raiseFault .invalidState s) ∨
    (s.clkRdy = true ∧ s.ctlRdy = true ∧ ∃ cur : CycleState, s.state = cur.code ∧
      ((pollNext a b cur s = none ∧ t = stayPut (latchStop s.stopping (stopActive b)) s) ∨
       (∃ n, pollNext a b cur s = some n ∧ t = moveTo cur n (latchStop s.stopping (stopActive b)) s))) := by
  rw [execPoll, operation_of_running hf] at h
  cases h
  cases hc : s.clkRdy
  · exact Or.inl ⟨rfl, by simp⟩
  cases hr : s.ctlRdy
  · exact Or.inr (Or.inl ⟨rfl, rfl, by simp⟩)
  rcases CycleState.ofCode_cases s.state with ⟨hs, ho⟩ | ⟨_, cur, ho, hs⟩
  · exact Or.inr (Or.inr (Or.inl ⟨rfl, rfl, hs, by simp [ho]⟩))
  · refine Or.inr (Or.inr (Or.inr ⟨rfl, rfl, cur, hs, ?_⟩))
    cases hn : pollNext a b cur s with
    | none => exact Or.inl ⟨rfl, by simp [ho, pollStep, hn]⟩
    | some n => exact Or.inr ⟨n, rfl, by simp [ho, pollStep, hn]⟩

/-! ## Events -/

/-- Everything a step can do: nothing where no event arrives, else what the next event does. -/
theorem step_cases (s : State) :
    (s.pending = [] ∧ step s = .next s) ∨
    (∃ ev rest, s.pending = ev :: rest ∧ step s = runEvent ev (takeEvent rest s)) := by
  cases h : s.pending with
  | nil => exact Or.inl ⟨rfl, by simp [step, h]⟩
  | cons ev rest => exact Or.inr ⟨ev, rest, rfl, by simp [step, h]⟩

/-- Everything a command word can do: run the operation it decodes to, or be rejected. -/
theorem runCommand_cases (w : Cmd) (s : State) :
    (∃ i, decode w = .op i ∧ runCommand w s = exec i s) ∨
    (decode w = .reservedBits ∧ runCommand w s = rejectReservedBits s) := by
  cases h : decode w with
  | op i => exact Or.inl ⟨i, rfl, by simp [runCommand, h]⟩
  | reservedBits => exact Or.inr ⟨rfl, by simp [runCommand, h]⟩

end Machine

end Sys2Proof
end

