-- ==== Sys2Proof/Laws/Exec.lean ====
section
/-! SUPPORT. Everything an operation and a step can do, said once: the case analyses from which invariants and frames are
derived. -/

namespace Sys2Proof.Machine

/-- The ways in which an operation changes the state. -/
inductive Effect (s : State) : Instr → State → Prop where
  /-- It has no effect: NOP, a dropped tick, or any operation of a halted block. -/
  | quiet (i : Instr) : Effect s i (silent s)
  /-- It raises a fault. -/
  | faults (i : Instr) (f : Fault) (running : s.fault = 0#3) (notTick : i ≠ .clkTick) : Effect s i (raiseFault f s)
  /-- CLK_INIT. -/
  | starts (running : s.fault = 0#3) (clk : s.clkRdy = false) : Effect s .clkInit (startClock s)
  /-- TICK_EN. -/
  | enables (running : s.fault = 0#3) (clk : s.clkRdy = true) : Effect s .tickEn (enableTick s)
  /-- An accepted CLK_TICK. -/
  | ticks (running : s.fault = 0#3) (clk : s.clkRdy = true) (en : s.tickEn = true) :
      Effect s .clkTick (advanceClock s)
  /-- CLK_NOW. -/
  | responds (running : s.fault = 0#3) (clk : s.clkRdy = true) : Effect s .clkNow (respond s.millis s)
  /-- CTRL_INIT. -/
  | constructs (running : s.fault = 0#3) (clk : s.clkRdy = true) (ctl : s.ctlRdy = false) :
      Effect s .ctrlInit (construct s)
  /-- A POLL that stays put. -/
  | stays (a b : Bool) (cur : CycleState) (running : s.fault = 0#3) (clk : s.clkRdy = true) (ctl : s.ctlRdy = true)
      (code : s.state = cur.code) (none : pollNext a b cur s = none) :
      Effect s (.poll a b) (stayPut (latchStop s.stopping (stopActive b)) s)
  /-- A POLL that takes a transition. -/
  | moves (a b : Bool) (cur n : CycleState) (running : s.fault = 0#3) (clk : s.clkRdy = true) (ctl : s.ctlRdy = true)
      (code : s.state = cur.code) (some : pollNext a b cur s = some n) :
      Effect s (.poll a b) (moveTo cur n (latchStop s.stopping (stopActive b)) s)

/-- Every meaning is one operation: atomic, and without effect on a halted block. -/
theorem exec_eq_operation (i : Instr) (s : State) : ∃ body, exec i s = operation s body := by
  cases i <;>
    simp only [exec, execNop, execClkInit, execTickEn, execClkTick, execClkNow, execCtrlInit, execPoll, execReservedOp] <;>
    exact ⟨_, rfl⟩

/-- Every answer of exec is one of the effects. -/
theorem exec_cases {i : Instr} {s t : State} (h : exec i s = .next t) : Effect s i t := by
  by_cases hf : s.fault = 0#3
  · cases i with
    | nop =>
      rw [exec, execNop, operation_of_running hf] at h
      cases h
      exact .quiet _
    | clkInit =>
      rw [exec, execClkInit, operation_of_running hf] at h
      cases h
      cases hc : s.clkRdy
      · simpa using Effect.starts hf hc
      · simpa using Effect.faults .clkInit .clockReinit hf (by decide)
    | tickEn =>
      rw [exec, execTickEn, operation_of_running hf] at h
      cases h
      cases hc : s.clkRdy
      · simpa using Effect.faults .tickEn .clockUninit hf (by decide)
      · simpa using Effect.enables hf hc
    | clkTick =>
      rw [exec, execClkTick, operation_of_running hf] at h
      cases h
      cases hc : s.clkRdy <;> cases ht : s.tickEn
      · simpa using Effect.quiet .clkTick
      · simpa using Effect.quiet .clkTick
      · simpa using Effect.quiet .clkTick
      · simpa using Effect.ticks hf hc ht
    | clkNow =>
      rw [exec, execClkNow, operation_of_running hf] at h
      cases h
      cases hc : s.clkRdy
      · simpa using Effect.faults .clkNow .clockUninit hf (by decide)
      · simpa using Effect.responds hf hc
    | ctrlInit =>
      rw [exec, execCtrlInit, operation_of_running hf] at h
      cases h
      cases hc : s.clkRdy
      · simpa using Effect.faults .ctrlInit .clockUninit hf (by decide)
      · cases hr : s.ctlRdy
        · simpa using Effect.constructs hf hc hr
        · simpa using Effect.faults .ctrlInit .ctrlReinit hf (by decide)
    | poll a b =>
      rcases execPoll_cases hf h with ⟨_, rfl⟩ | ⟨_, _, rfl⟩ | ⟨_, _, _, rfl⟩ | ⟨hc, hr, cur, hs, ⟨hn, rfl⟩ | ⟨n, hn, rfl⟩⟩
      · exact .faults _ _ hf (by simp)
      · exact .faults _ _ hf (by simp)
      · exact .faults _ _ hf (by simp)
      · exact .stays a b cur hf hc hr hs hn
      · exact .moves a b cur n hf hc hr hs hn
    | reservedOp =>
      rw [exec, execReservedOp, operation_of_running hf] at h
      cases h
      exact .faults _ _ hf (by decide)
  · obtain ⟨body, hb⟩ := exec_eq_operation i s
    rcases operation_cases (hb ▸ h) with ⟨hr, _⟩ | ⟨_, rfl⟩
    · exact absurd hr hf
    · exact .quiet i

/-- Every answer of step: no event arrived, a power-on reset, an operation's effect on the state with its event taken, or a
rejected command word. -/
theorem step_effects {s t : State} (h : step s = .next t) :
    (s.pending = [] ∧ t = s) ∨
    (∃ rest, s.pending = .powerOnReset :: rest ∧ t = powerOnReset (takeEvent rest s)) ∨
    (∃ rest, s.pending = .tickStrobe :: rest ∧ Effect (takeEvent rest s) .clkTick t) ∨
    (∃ w rest i, s.pending = .command w :: rest ∧ decode w = .op i ∧ Effect (takeEvent rest s) i t) ∨
    (∃ w rest, s.pending = .command w :: rest ∧ decode w = .reservedBits ∧
      (t = raiseFault .reservedBits (takeEvent rest s) ∧ s.fault = 0#3 ∨
        t = silent (takeEvent rest s) ∧ s.fault ≠ 0#3)) := by
  rcases step_cases s with ⟨hp, hs⟩ | ⟨ev, rest, hp, hs⟩
  · rw [hs] at h
    cases h
    exact Or.inl ⟨hp, rfl⟩
  · rw [hs] at h
    cases ev with
    | powerOnReset =>
      cases h
      exact Or.inr (Or.inl ⟨rest, hp, rfl⟩)
    | tickStrobe => exact Or.inr (Or.inr (Or.inl ⟨rest, hp, exec_cases h⟩))
    | command w =>
      rcases runCommand_cases w (takeEvent rest s) with ⟨i, hd, hr⟩ | ⟨hd, hr⟩
      · exact Or.inr (Or.inr (Or.inr (Or.inl ⟨w, rest, i, hp, hd, exec_cases (hr ▸ h)⟩)))
      · refine Or.inr (Or.inr (Or.inr (Or.inr ⟨w, rest, hp, hd, ?_⟩)))
        have h' : rejectReservedBits (takeEvent rest s) = .next t := hr ▸ h
        rcases operation_cases (body := raiseFault .reservedBits) h' with ⟨hf, ht⟩ | ⟨hf, ht⟩
        · exact Or.inl ⟨ht, hf⟩
        · exact Or.inr ⟨ht, hf⟩

end Sys2Proof.Machine
end

