-- ==== Sys2Proof/Laws/PerInstr.lean ====
section
/-! SUPPORT. The statement made per instruction: its word lies in its row of spec/opcode_table.json. -/

namespace Sys2Proof.Laws

/-- The column "match" of an instruction's row (30_encoding.md rule R74). -/
def rowMatch : Instr → Cmd
  | .nop => 0x00#8
  | .clkInit => 0x01#8
  | .tickEn => 0x02#8
  | .clkTick => 0x03#8
  | .clkNow => 0x04#8
  | .ctrlInit => 0x05#8
  | .poll _ _ => 0x06#8
  | .reservedOp => 0x07#8

/-- The column "mask" of an instruction's row (30_encoding.md rule R74). -/
def rowMask : Instr → Cmd
  | .nop => 0x07#8
  | .clkInit => 0xFF#8
  | .tickEn => 0xFF#8
  | .clkTick => 0xFF#8
  | .clkNow => 0xFF#8
  | .ctrlInit => 0xFF#8
  | .poll _ _ => 0xE7#8
  | .reservedOp => 0x07#8

/-- The instruction is well-formed and its word matches its own row under the row's mask. -/
def WordInItsRow.Statement (i : Instr) : Prop :=
  i.wf = true ∧ encode i &&& rowMask i = rowMatch i

theorem WordInItsRow.nop : WordInItsRow.Statement .nop := ⟨rfl, rfl⟩
theorem WordInItsRow.clkInit : WordInItsRow.Statement .clkInit := ⟨rfl, rfl⟩
theorem WordInItsRow.tickEn : WordInItsRow.Statement .tickEn := ⟨rfl, rfl⟩
theorem WordInItsRow.clkTick : WordInItsRow.Statement .clkTick := ⟨rfl, rfl⟩
theorem WordInItsRow.clkNow : WordInItsRow.Statement .clkNow := ⟨rfl, rfl⟩
theorem WordInItsRow.ctrlInit : WordInItsRow.Statement .ctrlInit := ⟨rfl, rfl⟩
theorem WordInItsRow.poll (startPin stopPin : Bool) : WordInItsRow.Statement (.poll startPin stopPin) :=
  ⟨rfl, by cases startPin <;> cases stopPin <;> rfl⟩
theorem WordInItsRow.reservedOp : WordInItsRow.Statement .reservedOp := ⟨rfl, rfl⟩

end Sys2Proof.Laws
end

