-- ==== Sys2Proof/Laws/Run.lean ====
section
/-! SUPPORT. Runs of the machine: the induction over steps packaged once. -/

namespace Sys2Proof.Machine

@[simp] theorem run_zero (s : State) : Host.Core.run Sys2Proof.core 0 s = .next s := rfl

/-- A run of k + 1 steps of any machine, by what its first step answers. -/
theorem coreRun_succ (M : Host.Core) (k : Nat) (s : M.State) :
    M.run (k + 1) s =
      match M.step s with
      | .next t => M.run k t
      | .fault f => .fault f
      | .refused r => .refused r := by
  cases h : M.step s <;> simp only [Host.Core.run, h]

/-- A run of k + 1 steps is its first step and a run of k. -/
theorem run_succ {s t : State} (k : Nat) (h : step s = .next t) :
    Host.Core.run Sys2Proof.core (k + 1) s = Host.Core.run Sys2Proof.core k t := by
  have hs : Sys2Proof.core.step s = .next t := h
  refine (coreRun_succ Sys2Proof.core k s).trans ?_
  rw [hs]

/-- What holds at the start and survives every step holds at the end of a run. -/
theorem run_induction (P : State → Prop) (keeps : ∀ s t : State, P s → step s = .next t → P t) :
    ∀ (k : Nat) (s t : State), P s → Host.Core.run Sys2Proof.core k s = .next t → P t := by
  intro k
  induction k with
  | zero =>
    intro s t hs h
    cases h
    exact hs
  | succ k ih =>
    intro s t hs h
    have hr := (coreRun_succ Sys2Proof.core k s).symm.trans h
    cases hst : step s with
    | next u =>
      have hu : Sys2Proof.core.step s = .next u := hst
      rw [hu] at hr
      exact ih u t (keeps s u hs hst) hr
    | fault f =>
      have hu : Sys2Proof.core.step s = .fault f := hst
      rw [hu] at hr
      cases hr
    | refused r =>
      have hu : Sys2Proof.core.step s = .refused r := hst
      rw [hu] at hr
      cases hr

/-- A step takes exactly the next event. -/
theorem step_pending {s t : State} (h : step s = .next t) : t.pending = s.pending.tail := by
  have effect_pending : ∀ {s t : State} {i : Instr}, Effect s i t → t.pending = s.pending := by
    intro s t i he
    cases he <;> rfl
  rcases step_effects h with ⟨hp, rfl⟩ | ⟨r, hp, rfl⟩ | ⟨r, hp, he⟩ | ⟨w, r, i, hp, _, he⟩ |
    ⟨w, r, hp, _, ⟨rfl, _⟩ | ⟨rfl, _⟩⟩
  · simp [hp]
  · simp [hp]
  · simp [hp, effect_pending he]
  · simp [hp, effect_pending he]
  · simp [hp]
  · simp [hp]

end Sys2Proof.Machine
end

