-- ==== Sys2Proof/Tests/Slice0.lean ====
section
/-! SUPPORT. The model's own tests. Every expected value is the spec's: the opcode map of 30_encoding.md rule R74, the vectors
of 95_test_vectors.md or a rule's own example, as each comment says. Every step is one step on a small state. -/

namespace Sys2Proof.Tests

open Sys2Proof.Machine Sys2Proof.Safety

/-! ## The test configuration TC and a state to start from (95_test_vectors.md section 1) -/

/-- ACT_EXAMPLE: the spec's test masks, for both tables. -/
def actExample : Vector ActMask 25 :=
  #v[0x003, 0x400, 0x180, 0x080, 0x060, 0x200, 0x020, 0x200, 0x008, 0x018, 0x010, 0x002, 0x200, 0x002, 0x060, 0x000,
     0x020, 0x004, 0x001, 0x060, 0x200, 0x020, 0x400, 0x180, 0x080]

/-- TC. -/
def tc : Params where
  durations := #v[10, 4, 3, 6, 8, 5, 5, 7, 2, 9]
  tickNum := 1
  tickDen := 1
  entryMask := actExample
  exitMask := actExample
  startActiveLevel := true
  soakHeatPath := false

/-- A running block under TC, ready to poll: STATE, LAST, MILLIS and STOPPING as given, OUT the mask of STATE. -/
def ready (st : CycleState) (last millis : Millis) (stopping : Bool) : State where
  millis := millis
  frac := 0
  tickEn := true
  clkRdy := true
  ctlRdy := true
  state := st.code
  last := last
  stopping := stopping
  out := tc.entryMaskOf st
  fault := 0#3
  params := tc
  resp := none
  pending := []
  draws := 0

/-- A block under TC right after power-on, its unspecified registers drawn as some values. -/
def fresh : State :=
  { ready .initialDraining 0x1234 0x5678 true with
    frac := 3, tickEn := false, clkRdy := false, ctlRdy := false, state := 27#5, out := 0#11 }

/-- Whether an outcome is a next state with a property. -/
def nextIs (o : Result) (p : State → Bool) : Bool :=
  match o with
  | .next t => p t
  | .fault _ => false
  | .refused _ => false

/-- The registers that the table of 95_test_vectors.md section 5.1 lists after a POLL: STATE, LAST, STOPPING, OUT and the
response. -/
def pollGives (o : Result) (st : CycleState) (last : Millis) (stopping : Bool) (out : ActMask) (resp : BitVec 32) : Bool :=
  nextIs o fun t =>
    t.state == st.code && t.last == last && t.stopping == stopping && t.out == out && t.resp == some resp && t.fault == 0#3

/-! ## Decoding: words written out from 30_encoding.md rule R74, and the table of 95_test_vectors.md section 5.4 -/

theorem test_decode_nop : decode 0b00000000#8 = .op .nop ∧ decode 0b11111000#8 = .op .nop := by decide
theorem test_decode_clkInit : decode 0b00000001#8 = .op .clkInit := by decide
theorem test_decode_tickEn : decode 0b00000010#8 = .op .tickEn := by decide
theorem test_decode_clkTick : decode 0b00000011#8 = .op .clkTick := by decide
theorem test_decode_clkNow : decode 0b00000100#8 = .op .clkNow := by decide
theorem test_decode_ctrlInit : decode 0b00000101#8 = .op .ctrlInit := by decide
theorem test_decode_poll :
    decode 0b00000110#8 = .op (.poll false false) ∧ decode 0b00001110#8 = .op (.poll true false) ∧
    decode 0b00010110#8 = .op (.poll false true) ∧ decode 0b00011110#8 = .op (.poll true true) := by decide
theorem test_decode_reservedOp : decode 0b00000111#8 = .op .reservedOp ∧ decode 0b11111111#8 = .op .reservedOp := by decide
theorem test_decode_reservedBits :
    decode 0x09#8 = .reservedBits ∧ decode 0x21#8 = .reservedBits ∧ decode 0x14#8 = .reservedBits ∧
    decode 0x26#8 = .reservedBits ∧ decode 0xDE#8 = .reservedBits := by decide
theorem test_encode_words :
    [Instr.nop, .clkInit, .tickEn, .clkTick, .clkNow, .ctrlInit, .poll true false, .poll false true, .reservedOp].map encode =
      [0x00, 0x01, 0x02, 0x03, 0x04, 0x05, 0x0E, 0x16, 0x07] := by decide
theorem test_decodeTableWord :
    decodeTableWord 8 0x1E = some (.poll true true) ∧ decodeTableWord 8 0x3E = none ∧
    decodeTableWord 5 0x3E = some (.poll true true) := by decide

/-! ## Well-formedness: one ill-formed term for each check (93_implementation_defined.md section 1) -/

/-- TC as an offered parameter set. -/
def rawTc : Config.Raw where
  durations := [(.draining, 10), (.locking, 4), (.separatorTransition, 3), (.waterPumping, 6), (.heating, 8),
    (.heatedMixing, 5), (.mixing, 5), (.rinsing, 7), (.separatorHolding, 2), (.blending, 9)]
  tickNum := 1
  tickDen := 1
  entryMask := actExample
  exitMask := actExample
  startActiveLevel := true
  soakHeatPath := false

theorem test_wf_accepts_tc : tc.wf = true ∧ tc.symmetric = true := by decide
theorem test_wf_refuses_tickNum_zero : ({ tc with tickNum := 0 } : Params).wf = false := by decide
theorem test_wf_refuses_tickDen_zero : ({ tc with tickDen := 0 } : Params).wf = false := by decide
theorem test_wf_instr : (Instr.poll true false).wf = true := by decide
theorem test_configure_accepts_tc : Config.configure rawTc = .params tc := by decide
theorem test_configure_refuses_tickNum_zero :
    Config.configure { rawTc with tickNum := 0 } = .refused .tickNumZero := by decide
theorem test_configure_refuses_tickDen_zero :
    Config.configure { rawTc with tickDen := 0 } = .refused .tickDenZero := by decide
theorem test_configure_refuses_missing :
    Config.configure { rawTc with durations := rawTc.durations.tail } = .refused (.missingDuration .draining) := by decide
theorem test_configure_refuses_repeated :
    Config.configure { rawTc with durations := (.mixing, 1) :: rawTc.durations } = .refused (.repeatedDuration .mixing) := by
  decide

/-! ## NEXT: 95_test_vectors.md sections 2, 4.1, 4.2 and 4.3 -/

/-- The code of a next state, 31 for None. -/
def nextCode (c : Params) (s : CycleState) (e : Millis) (st sp : Bool) : StateCode :=
  match nextState c s e st sp with
  | some n => n.code
  | none => 31#5

/-- The eight columns of the table for one state, with the elapsed time d of the second group. -/
def totalityRow (s : CycleState) (d : Millis) : List StateCode :=
  [nextCode tc s 0 false false, nextCode tc s 0 false true, nextCode tc s 0 true false, nextCode tc s 0 true true,
   nextCode tc s d false false, nextCode tc s d false true, nextCode tc s d true false, nextCode tc s d true true]

/-- Section 4.1, codes 0 to 12. -/
theorem test_next_totality_low :
    [totalityRow .initialDraining 10, totalityRow .initialIdling 0xFFFFFFFF, totalityRow .initialLocking 4,
     totalityRow .initialUnlocking 4, totalityRow .initialSetupSeparatorOpening 3, totalityRow .initialSetupWaterPumping 6,
     totalityRow .initialSetupSeparatorClosing 3, totalityRow .soakWaterPumping 6, totalityRow .soakWaterHeating 8,
     totalityRow .soakWaterHeatedMixing 5, totalityRow .soakWaterMixing 5, totalityRow .soakWaterDraining 10,
     totalityRow .rinseWaterPumping 7] =
    [[31, 31, 31, 31, 1, 1, 1, 1], [31, 31, 2, 2, 31, 31, 2, 2], [3, 3, 31, 31, 3, 3, 4, 4], [31, 31, 31, 31, 1, 1, 1, 1],
     [31, 31, 31, 31, 5, 5, 5, 5], [31, 31, 31, 31, 6, 6, 6, 6], [31, 31, 31, 31, 7, 7, 7, 7],
     [31, 11, 31, 11, 11, 11, 11, 11], [31, 11, 31, 11, 9, 11, 9, 11], [31, 11, 31, 11, 10, 11, 10, 11],
     [31, 11, 31, 11, 11, 11, 11, 11], [31, 31, 31, 31, 12, 22, 12, 22], [31, 13, 31, 13, 13, 13, 13, 13]] := by decide

/-- Section 4.1, codes 13 to 24. -/
theorem test_next_totality_high :
    [totalityRow .rinseWaterDraining 10, totalityRow .separatorOpening 3, totalityRow .separatorHolding 2,
     totalityRow .separatorClosing 3, totalityRow .blending 9, totalityRow .pulpDraining 10,
     totalityRow .setupSeparatorOpening 3, totalityRow .setupWaterPumping 6, totalityRow .setupSeparatorClosing 3,
     totalityRow .idling 0xFFFFFFFF, totalityRow .locking 4, totalityRow .unlocking 4] =
    [[31, 31, 31, 31, 14, 22, 14, 22], [31, 31, 31, 31, 15, 15, 15, 15], [31, 31, 31, 31, 16, 16, 16, 16],
     [31, 31, 31, 31, 17, 17, 17, 17], [31, 31, 31, 31, 18, 18, 18, 18], [31, 31, 31, 31, 19, 19, 19, 19],
     [31, 31, 31, 31, 20, 20, 20, 20], [31, 31, 31, 31, 21, 21, 21, 21], [31, 31, 31, 31, 22, 22, 22, 22],
     [31, 31, 23, 23, 31, 31, 23, 23], [24, 24, 31, 31, 24, 24, 7, 7], [31, 31, 31, 31, 22, 22, 22, 22]] := by decide

/-- S4 and S5: abort before dwell, and the inclusive threshold. -/
theorem test_next_source_examples :
    nextState tc .soakWaterHeating 7 false true = some .soakWaterDraining ∧
    nextState tc .soakWaterHeating 8 false true = some .soakWaterDraining ∧
    nextState tc .soakWaterHeating 8 false false = some .soakWaterHeatedMixing ∧
    nextState tc .initialLocking 3 true false = none ∧
    nextState tc .initialLocking 4 true false = some .initialSetupSeparatorOpening := by decide

/-- Section 4.2, SOAK_HEAT_PATH = 1. -/
theorem test_next_heat_path :
    nextState { tc with soakHeatPath := true } .soakWaterPumping 6 false false = some .soakWaterHeating ∧
    nextState { tc with soakHeatPath := true } .soakWaterPumping 5 false false = none ∧
    nextState { tc with soakHeatPath := true } .soakWaterPumping 6 true true = some .soakWaterDraining := by decide

/-- Section 4.3: durations 0 and 2^32 - 1. -/
theorem test_next_extreme_durations :
    nextState { tc with durations := #v[0, 0, 3, 6, 8, 5, 5, 7, 2, 0xFFFFFFFF] } .initialDraining 0 false false =
      some .initialIdling ∧
    nextState { tc with durations := #v[0, 0, 3, 6, 8, 5, 5, 7, 2, 0xFFFFFFFF] } .locking 0 false false = some .unlocking ∧
    nextState { tc with durations := #v[0, 0, 3, 6, 8, 5, 5, 7, 2, 0xFFFFFFFF] } .locking 0 true false =
      some .soakWaterPumping ∧
    nextState { tc with durations := #v[0, 0, 3, 6, 8, 5, 5, 7, 2, 0xFFFFFFFF] } .blending 0xFFFFFFFE false false = none ∧
    nextState { tc with durations := #v[0, 0, 3, 6, 8, 5, 5, 7, 2, 0xFFFFFFFF] } .blending 0xFFFFFFFF false false =
      some .pulpDraining := by decide

/-! ## One step of each operation -/

/-- F5: NOP at power-on is no fault. -/
theorem test_nop : nextIs (exec .nop fresh) (fun t => t == fresh) = true := by decide
/-- The example of 40_clock.md rule R101. -/
theorem test_clkInit :
    nextIs (exec .clkInit fresh) (fun t => t.millis == 0#32 && t.frac == 0 && t.clkRdy && !t.tickEn && t.fault == 0#3) =
      true := by decide
/-- C15 and F7: a second CLK_INIT faults CLOCK_REINIT and keeps MILLIS. -/
theorem test_clkInit_twice :
    nextIs (exec .clkInit (ready .idling 0 7 false)) (fun t => t.fault == 2#3 && t.millis == 7#32 && t.resp == none) =
      true := by decide
/-- The example of 40_clock.md rule R102. -/
theorem test_tickEn :
    nextIs (exec .tickEn { fresh with clkRdy := true }) (fun t => t.tickEn && t.fault == 0#3) = true := by decide
/-- F1. -/
theorem test_tickEn_before_clkInit : nextIs (exec .tickEn fresh) (fun t => t.fault == 1#3 && !t.tickEn) = true := by decide
/-- C16, the example of 40_clock.md rule R103. -/
theorem test_clkTick_example :
    nextIs (exec .clkTick { ready .idling 0 41 false with frac := 984, params := { tc with tickNum := 1024, tickDen := 1000 } })
      (fun t => t.millis == 43#32 && t.frac == 8) = true := by decide
/-- C17: MILLIS wraps, with no fault. -/
theorem test_clkTick_wraps :
    nextIs (exec .clkTick (ready .idling 0 0xFFFFFFFF false)) (fun t => t.millis == 0#32 && t.fault == 0#3) = true := by decide
/-- C1, its last operation. -/
theorem test_clkNow :
    nextIs (exec .clkNow (ready .idling 0 5 false)) (fun t => t.resp == some 5#32 && t.millis == 5#32) = true := by decide
/-- F2, C14. -/
theorem test_clkNow_before_clkInit :
    nextIs (exec .clkNow fresh) (fun t => t.fault == 1#3 && t.resp == none) = true := by decide
/-- I3. -/
theorem test_ctrlInit :
    nextIs (exec .ctrlInit { fresh with clkRdy := true, millis := 0xFFFFFFFA })
      (fun t => t.state == 0#5 && t.last == 0xFFFFFFFA#32 && !t.stopping && t.out == 0x003#11 && t.ctlRdy) = true := by
  decide
/-- F9. -/
theorem test_ctrlInit_twice :
    nextIs (exec .ctrlInit (ready .idling 3 5 true)) (fun t => t.fault == 4#3 && t.last == 3#32 && t.stopping) = true := by
  decide
/-- Q4, Q7, Q9, Q12, Q15 and Q17 of 95_test_vectors.md section 5.1. -/
theorem test_poll_transitions :
    pollGives (exec (.poll false true) (ready .initialDraining 0xFFFFFFFC 6 false)) .initialIdling 6 false 0x400 1 = true ∧
    pollGives (exec (.poll true true) (ready .initialIdling 10 500 true)) .initialLocking 500 true 0x180 1 = true ∧
    pollGives (exec (.poll false true) (ready .initialLocking 10 12 false)) .initialUnlocking 12 false 0x080 1 = true ∧
    pollGives (exec (.poll false false) (ready .soakWaterPumping 26 26 false)) .soakWaterDraining 26 true 0x002 1 = true ∧
    pollGives (exec (.poll false true) (ready .soakWaterDraining 26 36 true)) .idling 36 false 0x400 1 = true ∧
    pollGives (exec (.poll true false) (ready .separatorHolding 76 78 false)) .separatorClosing 78 true 0x020 1 = true := by
  decide
/-- Q1, Q6 and Q14. -/
theorem test_poll_stays :
    pollGives (exec (.poll false true) (ready .initialDraining 0 9 false)) .initialDraining 0 false 0x003 0 = true ∧
    pollGives (exec (.poll false false) (ready .initialIdling 10 500 false)) .initialIdling 10 true 0x400 0 = true ∧
    pollGives (exec (.poll false true) (ready .soakWaterDraining 26 35 true)) .soakWaterDraining 26 true 0x002 0 = true := by
  decide
/-- F10. -/
theorem test_reservedOp : nextIs (exec .reservedOp fresh) (fun t => t.fault == 5#3) = true := by decide

/-- Section 5.3: the xor form with asymmetric masks. -/
theorem test_asymmetric_masks :
    transitionOut { tc with entryMask := tc.entryMask.set 4 0x0E0, exitMask := tc.exitMask.set 2 0x100 }
      .initialLocking .initialSetupSeparatorOpening 0x580 = 0x460 ∧
    transitionOutExplicit { tc with entryMask := tc.entryMask.set 4 0x0E0, exitMask := tc.exitMask.set 2 0x100 }
      .initialLocking .initialSetupSeparatorOpening 0x580 = 0x4E0 := by decide

/-- F14, F15, F17: decode faults come before every other check, and F16: an injected STATE. -/
theorem test_fault_priority :
    nextIs (runCommand 0x0C#8 fresh) (fun t => t.fault == 6#3) = true ∧
    nextIs (runCommand 0x26#8 fresh) (fun t => t.fault == 6#3) = true ∧
    nextIs (runCommand 0x26#8 { ready .idling 0 0 false with state := 27#5 }) (fun t => t.fault == 6#3) = true ∧
    nextIs (runCommand 0x16#8 { ready .idling 0 0 false with state := 27#5 }) (fun t => t.fault == 7#3 && t.state == 27#5) =
      true := by decide

/-- The end of section 5.5: from F8's end state CTRL_INIT, a tick and CLK_NOW have no effect, and P9. -/
theorem test_halted :
    nextIs (exec .ctrlInit { fresh with clkRdy := true, fault := 3#3 }) (fun t => !t.ctlRdy && t.fault == 3#3) = true ∧
    nextIs (exec .clkTick { ready .idling 0 5 false with fault := 3#3 }) (fun t => t.millis == 5#32) = true ∧
    nextIs (exec .clkNow { ready .idling 0 5 false with fault := 3#3 }) (fun t => t.resp == none && t.fault == 3#3) = true := by
  decide

/-- The first instruction after reset: CLK_INIT runs, a CLK_NOW raises CLOCK_UNINIT (F2). -/
theorem test_first_instruction :
    nextIs (step (State.reset.withFetchWord 8 0x01)) (fun t => t.clkRdy && t.millis == 0#32 && t.fault == 0#3) = true ∧
    nextIs (step (State.reset.withFetchWord 8 0x04)) (fun t => t.fault == 1#3) = true := by decide

/-- The source text of P1's first lines assembles to the words beside them. -/
theorem test_assemble :
    assemble true
      ['B', 'O', 'O', 'T', ' ', ';', ' ', 'c', 'l', 'o', 'c', 'k', '\n',
       'I', 'D', 'L', 'E', 'P', 'O', 'L', 'L', '\n',
       'T', 'I', 'C', 'K', 'S', ' ', '1', '2', '\n',
       'P', 'O', 'L', 'L', ' ', 's', 't', 'a', 'r', 't', '=', '1', ',', ' ', 's', 't', 'o', 'p', '=', '0', '\n',
       'C', 'L', 'K', '_', 'N', 'O', 'W'] =
      some [0x01, 0x02, 0x05, 0x16, 0x03, 0x03, 0x03, 0x03, 0x03, 0x03, 0x03, 0x03, 0x03, 0x03, 0x03, 0x03, 0x0E, 0x04] ∧
    assemble true ['N', 'O', 'P', ' ', 'X'] = none := by decide

/-! ## Witnesses: states and operands that meet the hypotheses of each statement together, a boundary value for each clause -/

/-- A state with input events still to come. -/
def sees (s : State) (evs : List Event) : State := { s with pending := evs }

/-- A halted block. -/
def halted (f : Fault) : State := { ready .idling 3 5 true with fault := f.code }

/-- A block whose STATE names no state, or the last one that does. -/
def withCode (k : StateCode) : State := { ready .idling 0 0 false with state := k }

theorem witness_DecodeAndEncodeAgree :
    Instr.wf (.poll true false) = true ∧ decode 0x0E#8 = .op (.poll true false) ∧ Instr.poll true false ≠ .nop ∧
    Instr.poll true false ≠ .reservedOp ∧ decode 0xF8#8 = .op .nop ∧ decode 0xFF#8 = .op .reservedOp := by decide
theorem witness_DecodeFollowsItsRule :
    0xF8#8 &&& 0x07#8 = 0#8 ∧ 0xFF#8 &&& 0x07#8 = 7#8 ∧ 0x1E#8 &&& 0x07#8 = 6#8 ∧ 0x01#8 &&& 0x07#8 = 1#8 ∧
    0x0A#8 &&& 0x07#8 = 2#8 ∧ 0x03#8 &&& 0x07#8 = 3#8 ∧ 0x84#8 &&& 0x07#8 = 4#8 ∧ 0x05#8 &&& 0x07#8 = 5#8 := by decide
theorem witness_PollWordsAndTheirPins :
    tc.startActiveLevel = true ∧ ({ tc with startActiveLevel := false } : Params).startActiveLevel = false := by decide
theorem witness_StepRunsDecodedCommand :
    (sees (ready .idling 0 0 false) [.command 0x1E#8, .tickStrobe]).pending = .command 0x1E#8 :: [.tickStrobe] ∧
    decode 0x1E#8 = .op (.poll true true) ∧ Instr.wf (.poll true true) = true := by decide
theorem witness_NoEventNoEffect : (ready .idling 0 0 false).pending = [] := by decide
theorem witness_PowerOnResetAloneClearsFault :
    (sees (halted .invalidState) [.powerOnReset, .tickStrobe]).pending = .powerOnReset :: [.tickStrobe] ∧
    ∃ t, step (sees (halted .invalidState) [.powerOnReset]) = .next t ∧ (halted .invalidState).fault ≠ 0#3 ∧ t.fault = 0#3 :=
  ⟨rfl, _, rfl, by decide, rfl⟩
theorem witness_HaltedStateIsFaultOutcome :
    (∃ t, step (sees (ready .idling 0 0 false) [.command 0x04#8]) = .next t ∧ t.fault = 0#3) ∧
    (∃ t, step (sees (ready .idling 0 0 false) [.command 0x24#8]) = .next t ∧ t.fault = Fault.reservedBits.code) ∧
    (∃ t, step (sees (halted .clockReinit) [.tickStrobe]) = .next t ∧ t.fault = Fault.clockReinit.code) :=
  ⟨⟨_, rfl, rfl⟩, ⟨_, rfl, rfl⟩, ⟨_, rfl, rfl⟩⟩
theorem witness_NopDoesNothing : 0xF8#8 &&& 0x07#8 = 0#8 ∧ 0x00#8 &&& 0x07#8 = 0#8 := by decide
theorem witness_ClkInitStartsClock :
    (fresh.fault = 0#3 ∧ fresh.clkRdy = false) ∧
    ((ready .idling 0 7 false).fault = 0#3 ∧ (ready .idling 0 7 false).clkRdy = true) ∧
    (0x09#8 &&& 0x07#8 = 1#8 ∧ 0x09#8 ≠ 0x01#8) ∧ (0x81#8 &&& 0x07#8 = 1#8 ∧ 0x81#8 ≠ 0x01#8) := by decide
theorem witness_TickEnEnablesTick :
    (({ fresh with clkRdy := true } : State).fault = 0#3 ∧ ({ fresh with clkRdy := true } : State).clkRdy = true) ∧
    (fresh.fault = 0#3 ∧ fresh.clkRdy = false) ∧ (0x0A#8 &&& 0x07#8 = 2#8 ∧ 0x0A#8 ≠ 0x02#8) ∧
    (∃ t, exec .clkTick (ready .idling 0 0 false) = .next t ∧ (ready .idling 0 0 false).tickEn = true) ∧
    (∃ t, exec .clkTick { fresh with clkRdy := true } = .next t ∧ fresh.tickEn = false) :=
  ⟨by decide, by decide, by decide, ⟨_, rfl, rfl⟩, ⟨_, rfl, rfl⟩⟩
theorem witness_ClkTickAdvancesClock :
    ((ready .idling 0 0 false).fault = 0#3 ∧ (ready .idling 0 0 false).clkRdy = true ∧
      (ready .idling 0 0 false).tickEn = true) ∧
    (fresh.fault = 0#3 ∧ fresh.clkRdy = false) ∧
    ({ ready .idling 0 0 false with tickEn := false } : State).tickEn = false ∧
    ((0 < tc.tickDen ∧ (ready .idling 0 0 false).frac < tc.tickDen)) ∧
    (0x0B#8 &&& 0x07#8 = 3#8 ∧ 0x0B#8 ≠ 0x03#8) := by decide
theorem witness_ClkNowRespondsMillis :
    ((ready .idling 0 5 false).fault = 0#3 ∧ (ready .idling 0 5 false).clkRdy = true) ∧
    (fresh.fault = 0#3 ∧ fresh.clkRdy = false) ∧ (0x84#8 &&& 0x07#8 = 4#8 ∧ 0x84#8 ≠ 0x04#8) := by decide
theorem witness_CtrlInitBuildsContext :
    (({ fresh with clkRdy := true } : State).fault = 0#3 ∧ ({ fresh with clkRdy := true } : State).clkRdy = true ∧
      ({ fresh with clkRdy := true } : State).ctlRdy = false) ∧
    (fresh.fault = 0#3 ∧ fresh.clkRdy = false) ∧
    ((ready .idling 0 0 false).clkRdy = true ∧ (ready .idling 0 0 false).ctlRdy = true) ∧
    (0x0D#8 &&& 0x07#8 = 5#8 ∧ 0x0D#8 ≠ 0x05#8) := by decide
theorem witness_PollPreconditions :
    (fresh.fault = 0#3 ∧ fresh.clkRdy = false) ∧
    (({ fresh with clkRdy := true } : State).clkRdy = true ∧ ({ fresh with clkRdy := true } : State).ctlRdy = false) ∧
    ((withCode 25#5).fault = 0#3 ∧ (withCode 25#5).clkRdy = true ∧ (withCode 25#5).ctlRdy = true ∧
      24 < (withCode 25#5).state.toNat) ∧
    (withCode 24#5).state.toNat = 24 ∧ (∃ t, exec (.poll true true) (withCode 24#5) = .next t) :=
  ⟨by decide, by decide, by decide, by decide, ⟨_, rfl⟩⟩
/-- One ms below the threshold of InitialDraining (Q1). -/
theorem witness_PollStaysPut :
    (ready .initialDraining 0 9 false).fault = 0#3 ∧ (ready .initialDraining 0 9 false).clkRdy = true ∧
    (ready .initialDraining 0 9 false).ctlRdy = true ∧
    (ready .initialDraining 0 9 false).state = CycleState.initialDraining.code ∧
    nextState tc .initialDraining (9 - 0) (false == tc.startActiveLevel) (false || !true) = none := by decide
/-- The threshold of InitialDraining itself, and a transition out of the last code. -/
theorem witness_PollTakesTransition :
    (ready .initialDraining 0 10 false).fault = 0#3 ∧ (ready .initialDraining 0 10 false).clkRdy = true ∧
    (ready .initialDraining 0 10 false).ctlRdy = true ∧
    (ready .initialDraining 0 10 false).state = CycleState.initialDraining.code ∧
    nextState tc .initialDraining (10 - 0) (false == tc.startActiveLevel) (false || !true) = some .initialIdling ∧
    (ready .unlocking 0 4 true).state = CycleState.unlocking.code ∧
    nextState tc .unlocking (4 - 0) (true == tc.startActiveLevel) (true || !false) = some .idling := by decide
theorem witness_ReservedOpFaults :
    fresh.fault = 0#3 ∧ 0x07#8 &&& 0x07#8 = 7#8 ∧ 0xFF#8 &&& 0x07#8 = 7#8 := by decide
/-- Each word is the next event of a state with FAULT = 0 and the step answers a next state; the values are each clause's. -/
theorem witness_FaultsInCheckOrder :
    (∀ w ∈ [0xF8#8, 0x0F#8, 0x01#8, 0x09#8, 0x02#8, 0x82#8, 0x03#8, 0x0B#8, 0x04#8, 0x14#8, 0x05#8, 0x25#8, 0x06#8, 0x26#8],
      nextIs (step (sees fresh [.command w])) (fun _ => true) = true) ∧
    fresh.fault = 0#3 ∧ (sees fresh [.command 0x01#8]).pending = .command 0x01#8 :: [] ∧
    nextIs (step (sees (withCode 24#5) [.command 0x16#8])) (fun t => t.fault == 0#3) = true ∧
    nextIs (step (sees (withCode 25#5) [.command 0x16#8])) (fun t => t.fault == 7#3) = true ∧
    nextIs (step (sees fresh [.tickStrobe])) (fun t => t.fault == 0#3) = true := by decide
theorem witness_FaultsArePrecise :
    (∃ t, exec .clkInit (ready .idling 0 0 false) = .next t ∧ (ready .idling 0 0 false).fault = 0#3 ∧ t.fault ≠ 0#3) ∧
    (∃ t, runCommand 0x09#8 fresh = .next t ∧ fresh.fault = 0#3 ∧ t.fault ≠ 0#3) :=
  ⟨⟨_, rfl, rfl, by decide⟩, ⟨_, rfl, rfl, by decide⟩⟩
theorem witness_StrayBitsRaiseReservedBits :
    (sees fresh [.command 0x26#8]).pending = .command 0x26#8 :: [] ∧ fresh.fault = 0#3 ∧
    (0x26#8 &&& 7#8 ≠ 0#8 ∧ 0x26#8 &&& 7#8 ≠ 7#8 ∧ 0x26#8 >>> 5 ≠ 0#8) ∧
    (0x09#8 &&& 7#8 ≠ 0#8 ∧ 0x09#8 &&& 7#8 ≠ 7#8 ∧ 0x09#8 &&& 7#8 ≠ 6#8 ∧ 0x09#8 >>> 3 ≠ 0#8) := by decide
theorem witness_HaltedBlockIgnoresOperations :
    (halted .ctrlReinit).fault ≠ 0#3 ∧
    (sees (halted .ctrlReinit) [.command 0x01#8]).pending = .command 0x01#8 :: [] ∧
    Event.command 0x01#8 ≠ .powerOnReset := by decide
theorem witness_HaltedRunKeepsEveryRegister :
    (sees (halted .ctrlReinit) [.tickStrobe, .command 0x04#8, .powerOnReset]).fault ≠ 0#3 ∧
    Event.powerOnReset ∉ (sees (halted .ctrlReinit) [.tickStrobe, .command 0x04#8, .powerOnReset]).pending.take 2 ∧
    0 < 2 ∧ (sees (halted .ctrlReinit) [.tickStrobe, .command 0x04#8, .powerOnReset]).pending ≠ [] := by decide
theorem witness_OnlyControllerWritesItsContext :
    (∃ t, exec .clkTick (ready .idling 0 0 false) = .next t) ∧ Instr.clkTick ≠ .ctrlInit ∧
    (∀ a b, Instr.clkTick ≠ .poll a b) := ⟨⟨_, rfl⟩, by decide, by decide⟩
theorem witness_OnlyClockOperationsWriteTheClock :
    (∃ t, exec (.poll true true) (ready .idling 0 0 false) = .next t) ∧ Instr.poll true true ≠ .clkInit ∧
    Instr.poll true true ≠ .clkTick ∧ Instr.poll true true ≠ .tickEn ∧ Instr.poll true true ≠ .ctrlInit :=
  ⟨⟨_, rfl⟩, by decide, by decide, by decide, by decide⟩
theorem witness_TickTouchesOnlyTheClock :
    ∃ t, (sees (ready .idling 0 0 false) [.tickStrobe]).pending = .tickStrobe :: [] ∧
      step (sees (ready .idling 0 0 false) [.tickStrobe]) = .next t ∧ t.millis = 1#32 := ⟨_, rfl, rfl, by decide⟩
theorem witness_ParametersNeverChange :
    (∃ t, step (sees (ready .idling 0 0 false) [.powerOnReset]) = .next t) ∧
    (∃ t, exec (.poll true true) (ready .idling 0 0 false) = .next t) := ⟨⟨_, rfl⟩, ⟨_, rfl⟩⟩
theorem witness_OnlyClkNowAndPollRespond :
    (∃ t, exec .clkNow (ready .idling 0 5 false) = .next t ∧ t.resp = some 5#32) ∧
    (∃ t, exec (.poll true true) (ready .idling 0 5 false) = .next t ∧ t.resp = some 1#32) :=
  ⟨⟨_, rfl, by decide⟩, ⟨_, rfl, by decide⟩⟩
theorem witness_TransitionedIffStateChanged :
    (∃ t, (ready .idling 0 5 false).fault = 0#3 ∧ exec (.poll true true) (ready .idling 0 5 false) = .next t ∧
      t.fault = 0#3 ∧ t.state ≠ (ready .idling 0 5 false).state) ∧
    (∃ t, exec (.poll false true) (ready .idling 0 5 false) = .next t ∧ t.fault = 0#3 ∧
      t.state = (ready .idling 0 5 false).state) :=
  ⟨⟨_, rfl, rfl, by decide, by decide⟩, ⟨_, rfl, by decide, by decide⟩⟩
theorem witness_LastMovesWithState :
    (∃ t, exec (.poll true true) (ready .idling 0 5 false) = .next t ∧ t.state ≠ (ready .idling 0 5 false).state) ∧
    (∃ t, exec (.poll false true) (ready .idling 0 5 false) = .next t ∧ t.state = (ready .idling 0 5 false).state) :=
  ⟨⟨_, rfl, by decide⟩, ⟨_, rfl, by decide⟩⟩
theorem witness_DwellGuardIsInclusive : 1 ≤ (1#32).toNat ∧ 1 ≤ (0xFFFFFFFF#32).toNat ∧ (0#32 : Millis) = 0#32 := by decide
theorem witness_NextMonotoneInElapsed :
    nextState tc .soakWaterDraining 9 false true = none ∧ (0 : Millis).toNat ≤ (9 : Millis).toNat ∧
    dwellReached 10 (tc.dur .draining) = true ∧ (10 : Millis).toNat ≤ (0xFFFFFFFF : Millis).toNat := by decide
theorem witness_NoStateIsTerminal :
    CycleState.locking.isIdle = false ∧ CycleState.soakWaterHeating.isIdle = false ∧ CycleState.initialIdling.isIdle = true ∧
    CycleState.idling.isIdle = true := by decide
theorem witness_ReachableStates :
    tc.soakHeatPath = false ∧ ({ tc with soakHeatPath := true } : Params).soakHeatPath = true ∧
    7 ≤ CycleState.soakWaterPumping.code.toNat ∧ Reaches tc .soakWaterPumping .soakWaterDraining :=
  ⟨by decide, by decide, by decide, .move 0 false true .refl (by decide)⟩
theorem witness_ElapsedAcrossWrap : 0xFFFFFFFF < 2 ^ 32 := by decide
/-- The largest gap the bound allows, from one ms below D. -/
theorem witness_PollGapBound :
    dwellReached (elapsed 9 0) 10 = false ∧ 2 ^ 32 - 10 ≤ 2 ^ 32 - (10 : Millis).toNat ∧
    dwellReached (elapsed (9 + BitVec.ofNat 32 (2 ^ 32 - 10)) 0) 10 = true := by decide
theorem witness_ClockCountsExactly :
    ∃ t, 0 < tc.tickDen ∧ (ready .idling 0 0 false).clkRdy = true ∧ (ready .idling 0 0 false).frac < tc.tickDen ∧
      noReset 3 (sees (ready .idling 0 0 false) [.tickStrobe, .command 0x16#8, .tickStrobe]) ∧
      Host.Core.run Sys2Proof.core 3 (sees (ready .idling 0 0 false) [.tickStrobe, .command 0x16#8, .tickStrobe]) = .next t ∧
      (ready .idling 0 0 false).millis = 0#32 ∧ t.millis = 2#32 :=
  ⟨_, by decide, rfl, by decide, by unfold noReset; decide, rfl, rfl, by decide⟩
theorem witness_TickAndClkNowInEitherOrder :
    (ready .idling 0 5 false).fault = 0#3 ∧ (ready .idling 0 5 false).clkRdy = true ∧ (ready .idling 0 5 false).tickEn = true := by
  decide
theorem witness_StopLatchPersists :
    ∃ t, (ready .idling 0 5 true).ctlRdy = true ∧ (ready .idling 0 5 true).stopping = true ∧
      noReset 2 (sees (ready .idling 0 5 true) [.command 0x16#8, .tickStrobe]) ∧
      Host.Core.run Sys2Proof.core 2 (sees (ready .idling 0 5 true) [.command 0x16#8, .tickStrobe]) = .next t ∧
      t.stopping = true := ⟨_, rfl, rfl, by unfold noReset; decide, rfl, by decide⟩
theorem witness_StopAbortsSoakAtOnce :
    (ready .soakWaterHeating 5 5 false).fault = 0#3 ∧ (ready .soakWaterHeating 5 5 false).clkRdy = true ∧
    (ready .soakWaterHeating 5 5 false).ctlRdy = true ∧ (ready .soakWaterPumping 5 5 false).state = 7#5 ∧
    (ready .soakWaterHeating 5 5 false).state = 8#5 ∧ (ready .soakWaterHeatedMixing 5 5 false).state = 9#5 ∧
    (ready .soakWaterMixing 5 5 true).state = 10#5 ∧ (ready .soakWaterMixing 5 5 true).stopping = true := by decide
theorem witness_ExplicitFormGivesSameOutputs :
    tc.symmetric = true ∧ (ready .idling 0 0 false).out = tc.entryMaskOf .idling := by decide
theorem witness_StepKeepsClockInvariant :
    clockInv (sees (ready .idling 0 0 false) [.tickStrobe]) ∧
    ∃ t, step (sees (ready .idling 0 0 false) [.tickStrobe]) = .next t := ⟨by unfold clockInv; decide, _, rfl⟩
theorem witness_StepKeepsControllerInvariant :
    controllerInv (sees (ready .unlocking 0 4 false) [.command 0x16#8]) ∧
    ∃ t, step (sees (ready .unlocking 0 4 false) [.command 0x16#8]) = .next t ∧ t.state = CycleState.idling.code :=
  ⟨⟨by decide, by decide, fun _ _ cur h => by cases cur <;> first | rfl | exact absurd h (by decide)⟩, _, rfl, by decide⟩
theorem witness_StepKeepsHeatPathClosed :
    noHeatInv (sees (ready .soakWaterPumping 0 6 false) [.command 0x16#8]) ∧
    noReset 1 (sees (ready .soakWaterPumping 0 6 false) [.command 0x16#8]) ∧
    7 ≤ (ready .soakWaterPumping 0 6 false).state.toNat ∧ (ready .soakWaterPumping 0 6 false).ctlRdy = true ∧
    ∃ t, step (sees (ready .soakWaterPumping 0 6 false) [.command 0x16#8]) = .next t :=
  ⟨by unfold noHeatInv; decide, by unfold noReset; decide, by decide, by decide, _, rfl⟩
/-- Also of BootSequenceCompletes, whose other hypotheses are none. -/
theorem witness_PowerOnMeetsInvariants : tc.wf = true := by decide
theorem witness_IdleHoldsWhileStartInactive :
    ∃ t, (ready .idling 0 5 false).ctlRdy = true ∧ (ready .idling 0 5 false).state = CycleState.idling.code ∧
      (ready .initialIdling 0 5 false).state = CycleState.initialIdling.code ∧
      noReset 2 (sees (ready .idling 0 5 false) [.command 0x06#8, .tickStrobe]) ∧
      (∀ ev ∈ (sees (ready .idling 0 5 false) [.command 0x06#8, .tickStrobe]).pending.take 2, pollsWithStart tc ev = false) ∧
      Host.Core.run Sys2Proof.core 2 (sees (ready .idling 0 5 false) [.command 0x06#8, .tickStrobe]) = .next t :=
  ⟨_, rfl, rfl, rfl, by unfold noReset; decide, by decide, rfl⟩
theorem witness_DutifulRunNeverFaults :
    tc.wf = true ∧
    dutiful [.tickStrobe, .command 0x00#8, .command 0x01#8, .command 0x04#8, .command 0x05#8, .command 0x02#8, .tickStrobe,
      .command 0x1E#8, .command 0x04#8] = true ∧
    dutiful [.command 0x02#8] = false ∧ dutiful [.command 0x01#8, .command 0x01#8] = false := by decide
theorem witness_ConfigurationRefusesMissingDuration :
    (∀ v : Millis, (DurName.draining, v) ∉ ({ rawTc with durations := [] } : Config.Raw).durations) ∧
    0 < rawTc.tickNum ∧ 0 < rawTc.tickDen ∧ (∀ d : DurName, ∃ v : Millis, rawTc.entries d = [v]) :=
  ⟨fun _ => List.not_mem_nil, by decide, by decide, fun d => by cases d <;> exact ⟨_, rfl⟩⟩
theorem witness_SerialisedLeastSignificantFirst :
    serialise 0x44332211 = [0x11, 0x22, 0x33, 0x44] ∧ (3 < 4 ∧ 7 < 8) := by decide
theorem witness_PortsShowOutAndFault : ({ ready .idling 0 5 false with resp := some 5#32 } : State).resp = some 5#32 := by
  decide
/-- A booted block at the last state code, and a block between CLK_INIT and CTRL_INIT. -/
theorem witness_StepKeepsDutyInvariant :
    phaseInv .booted (sees (ready .unlocking 0 4 false) [.tickStrobe, .command 0x16#8]) ∧
    phaseInv .clock (sees { fresh with clkRdy := true } [.command 0x05#8, .command 0x02#8]) := by
  unfold phaseInv
  decide
theorem witness_PowerOnMeetsDutyInvariant :
    dutiful [] = true ∧ dutiful [.tickStrobe, .command 0x01#8] = true := by decide

end Sys2Proof.Tests
end

section
/-! SUPPORT. Scope and configuration: nothing writes the parameters (00_scope.md rule R8), and the configuration step refuses an
incomplete duration table. -/

namespace Sys2Proof.Machine

/-! ## What no operation and no step writes -/

/-- The frame shared by all operations: the parameters, and the model's own event list and draw number. -/
theorem Effect.keeps_environment {i : Instr} {s t : State} (h : Effect s i t) :
    t.params = s.params ∧ t.pending = s.pending ∧ t.draws = s.draws := by
  cases h with
  | quiet => exact ⟨silent_params s, silent_pending s, silent_draws s⟩
  | faults _ f => exact ⟨raiseFault_params f s, raiseFault_pending f s, raiseFault_draws f s⟩
  | starts => exact ⟨startClock_params s, startClock_pending s, startClock_draws s⟩
  | enables => exact ⟨enableTick_params s, enableTick_pending s, enableTick_draws s⟩
  | ticks => exact ⟨advanceClock_params s, advanceClock_pending s, advanceClock_draws s⟩
  | responds => exact ⟨respond_params _ s, respond_pending _ s, respond_draws _ s⟩
  | constructs => exact ⟨construct_params s, construct_pending s, construct_draws s⟩
  | stays => exact ⟨stayPut_params _ s, stayPut_pending _ s, stayPut_draws _ s⟩
  | moves _ _ cur n => exact ⟨moveTo_params cur n _ s, moveTo_pending cur n _ s, moveTo_draws cur n _ s⟩

theorem Effect.params_eq {i : Instr} {s t : State} (h : Effect s i t) : t.params = s.params :=
  h.keeps_environment.left

/-- Power-on reset too keeps the parameters (notes/assumptions 10). -/
theorem step_keeps_params {s t : State} (h : step s = .next t) : t.params = s.params := by
  rcases step_effects h with ⟨_, rfl⟩ | ⟨rest, _, rfl⟩ | ⟨rest, _, tick⟩ | ⟨w, rest, i, _, _, run⟩ |
    ⟨w, rest, _, _, ⟨rfl, _⟩ | ⟨rfl, _⟩⟩
  · rfl
  · simp only [powerOnReset_params, takeEvent_params]
  · simp only [tick.params_eq, takeEvent_params]
  · simp only [run.params_eq, takeEvent_params]
  · simp only [raiseFault_params, takeEvent_params]
  · simp only [silent_params, takeEvent_params]

/-- Settles O31, by cases on the effect of an operation and on what a step can do. -/
theorem parametersNeverChange : Obligations.ParametersNeverChange :=
  ⟨fun _ _ h => step_keeps_params h, fun _ _ _ h => (exec_cases h).keeps_environment⟩

end Sys2Proof.Machine

namespace Sys2Proof

/-! ## The configuration step -/

/-- The list that configuration walks through misses no duration name. -/
theorem DurName.mem_all (d : DurName) : d ∈ DurName.all := by
  cases d <;> decide

namespace Config

@[simp] theorem Raw.mem_entries_iff (raw : Raw) (d : DurName) (v : Millis) :
    v ∈ raw.entries d ↔ (d, v) ∈ raw.durations := by
  simp [Raw.entries]

theorem Raw.durationRefusal_eq_none_iff (raw : Raw) (d : DurName) :
    raw.durationRefusal d = none ↔ ∃ v, raw.entries d = [v] := by
  rcases h : raw.entries d with _ | ⟨v, _ | ⟨w, rest⟩⟩ <;> simp [Raw.durationRefusal, h]

theorem Raw.duration_eq_of_entries {raw : Raw} {d : DurName} {v : Millis} (h : raw.entries d = [v]) :
    raw.duration d = v := by
  simp [Raw.duration, h]

/-- What configuration demands: a positive tick period and exactly one entry for each name. -/
theorem Raw.refusal_eq_none_iff (raw : Raw) :
    raw.refusal = none ↔ 0 < raw.tickNum ∧ 0 < raw.tickDen ∧ ∀ d, ∃ v, raw.entries d = [v] := by
  have table : DurName.all.findSome? raw.durationRefusal = none ↔ ∀ d, ∃ v, raw.entries d = [v] := by
    simp [DurName.mem_all, Raw.durationRefusal_eq_none_iff]
  by_cases hnum : raw.tickNum = 0
  · simp [Raw.refusal, hnum]
  by_cases hden : raw.tickDen = 0
  · simp [Raw.refusal, hnum, hden]
  simp [Raw.refusal, hnum, hden, table, Nat.pos_iff_ne_zero]

/-- Everything configuration can answer: the reason for a refusal, or parameters that hold what was offered. -/
theorem configure_cases (raw : Raw) :
    (∃ r, raw.refusal = some r ∧ configure raw = .refused r) ∨
    (raw.refusal = none ∧ ∃ c : Params, configure raw = .params c ∧ c.tickNum = raw.tickNum ∧ c.tickDen = raw.tickDen ∧
      ∀ d, c.dur d = raw.duration d) := by
  cases h : raw.refusal with
  | some r => exact Or.inl ⟨r, rfl, by simp only [configure, h]⟩
  | none => exact Or.inr ⟨rfl, _, by simp only [configure, h]; rfl, rfl, rfl, fun d => by cases d <;> rfl⟩

theorem configure_refuses_missing_duration {raw : Raw} {d : DurName} (missing : ∀ v, (d, v) ∉ raw.durations) :
    ∃ r, configure raw = .refused r := by
  rcases configure_cases raw with ⟨r, _, refused⟩ | ⟨accepted, _⟩
  · exact ⟨r, refused⟩
  · obtain ⟨_, _, table⟩ := raw.refusal_eq_none_iff.mp accepted
    obtain ⟨v, entry⟩ := table d
    have offered : v ∈ raw.entries d := by simp [entry]
    exact absurd ((raw.mem_entries_iff d v).mp offered) (missing v)

theorem configure_accepts_complete_table {raw : Raw} (hnum : 0 < raw.tickNum) (hden : 0 < raw.tickDen)
    (table : ∀ d, ∃ v, raw.entries d = [v]) :
    ∃ c : Params, configure raw = .params c ∧ c.wf = true ∧ ∀ d v, (d, v) ∈ raw.durations → c.dur d = v := by
  have accepted : raw.refusal = none := raw.refusal_eq_none_iff.mpr ⟨hnum, hden, table⟩
  rcases configure_cases raw with ⟨r, refused, _⟩ | ⟨_, c, configured, tickNum_eq, tickDen_eq, dur_eq⟩
  · simp [accepted] at refused
  · refine ⟨c, configured, by simp [Params.wf, tickNum_eq, tickDen_eq, hnum, hden], fun d v offered => ?_⟩
    obtain ⟨u, entry⟩ := table d
    have v_eq : v = u := by simpa [entry] using (raw.mem_entries_iff d v).mpr offered
    rw [dur_eq, Raw.duration_eq_of_entries entry, v_eq]

/-- Settles O55: a name without an entry has no single one, and an accepted table's one entry is the value the block holds. -/
theorem configurationRefusesMissingDuration : Obligations.ConfigurationRefusesMissingDuration :=
  ⟨fun _ _ missing => configure_refuses_missing_duration missing,
    fun _ hnum hden table => configure_accepts_complete_table hnum hden table⟩

end Config

end Sys2Proof
end

section
/-! SUPPORT. The registers: who writes them (10_state.md rules R20, R28, R34 and R39), the invariants that every step keeps
(rule R40), the stop latch over a run (rule R29), the environment's duty step by step, and the ports. -/

namespace Sys2Proof.Machine

open Sys2Proof.Safety

/-! ## What a step can do -/

theorem step_of_pending {s : State} {ev : Event} {rest : List Event} (h : s.pending = ev :: rest) :
    step s = runEvent ev (takeEvent rest s) := by
  simp only [step, h]

/-- Every answer of step in three cases: a rejected command word is like an operation that faults, or like a halted one. -/
theorem step_effect_cases {s t : State} (h : step s = .next t) :
    (s.pending = [] ∧ t = s) ∨
    (∃ rest, s.pending = .powerOnReset :: rest ∧ t = powerOnReset (takeEvent rest s)) ∨
    (∃ ev rest i, s.pending = ev :: rest ∧ ev ≠ .powerOnReset ∧ Effect (takeEvent rest s) i t) := by
  rcases step_effects h with idle | reset | ⟨rest, hp, tick⟩ | ⟨w, rest, i, hp, _, run⟩ |
    ⟨w, rest, hp, _, ⟨rfl, running⟩ | ⟨rfl, _⟩⟩
  · exact .inl idle
  · exact .inr (.inl reset)
  · exact .inr (.inr ⟨_, rest, _, hp, Event.noConfusion, tick⟩)
  · exact .inr (.inr ⟨_, rest, i, hp, Event.noConfusion, run⟩)
  · exact .inr (.inr ⟨_, rest, .reservedOp, hp, Event.noConfusion, .faults _ _ running (by decide)⟩)
  · exact .inr (.inr ⟨_, rest, .reservedOp, hp, Event.noConfusion, .quiet _⟩)

/-- The rule for invariants: it is enough that taking an event, a power-on reset and every effect keep it. -/
theorem step_preserves {P : State → Prop} (take : ∀ s rest, P s → P (takeEvent rest s))
    (reset : ∀ s, P s → P (powerOnReset s)) (effect : ∀ s i t, P s → Effect s i t → P t)
    {s t : State} (hs : P s) (h : step s = .next t) : P t := by
  rcases step_effect_cases h with ⟨_, rfl⟩ | ⟨rest, _, rfl⟩ | ⟨_, rest, i, _, _, run⟩
  · exact hs
  · exact reset _ (take s rest hs)
  · exact effect _ i t (take s rest hs) run

/-- Every operation completes: with its body's state, or without an effect on a halted block. -/
theorem exec_completes (i : Instr) (s : State) : ∃ t, exec i s = .next t := by
  obtain ⟨body, hb⟩ := exec_eq_operation i s
  exact ⟨_, hb⟩

theorem step_completes (s : State) : ∃ t, step s = .next t := by
  rcases step_cases s with ⟨_, hs⟩ | ⟨ev, rest, _, hs⟩
  · exact ⟨s, hs⟩
  rw [hs]
  cases ev with
  | powerOnReset => exact ⟨_, rfl⟩
  | tickStrobe => exact exec_completes .clkTick _
  | command w =>
    rcases runCommand_cases w (takeEvent rest s) with ⟨i, _, hr⟩ | ⟨_, hr⟩
    · obtain ⟨t, ht⟩ := exec_completes i (takeEvent rest s)
      exact ⟨t, hr.trans ht⟩
    · exact ⟨_, hr⟩

/-! ## Who writes a register -/

section Frames

variable {i : Instr} {s t : State}

theorem Effect.keeps_time (h : Effect s i t) (notInit : i ≠ .clkInit) (notTick : i ≠ .clkTick) :
    t.millis = s.millis ∧ t.frac = s.frac := by
  cases h with
  | starts => exact absurd rfl notInit
  | ticks => exact absurd rfl notTick
  | _ => exact ⟨rfl, rfl⟩

theorem Effect.keeps_tickEn (h : Effect s i t) (notEn : i ≠ .tickEn) : t.tickEn = s.tickEn := by
  cases h with
  | enables => exact absurd rfl notEn
  | _ => rfl

theorem Effect.keeps_clkRdy (h : Effect s i t) (notInit : i ≠ .clkInit) : t.clkRdy = s.clkRdy := by
  cases h with
  | starts => exact absurd rfl notInit
  | _ => rfl

theorem Effect.keeps_ctlRdy (h : Effect s i t) (notInit : i ≠ .ctrlInit) : t.ctlRdy = s.ctlRdy := by
  cases h with
  | constructs => exact absurd rfl notInit
  | _ => rfl

theorem Effect.keeps_context (h : Effect s i t) (notInit : i ≠ .ctrlInit) (notPoll : ∀ a b, i ≠ .poll a b) :
    t.state = s.state ∧ t.last = s.last ∧ t.stopping = s.stopping ∧ t.out = s.out := by
  cases h with
  | constructs => exact absurd rfl notInit
  | stays a b => exact absurd rfl (notPoll a b)
  | moves a b => exact absurd rfl (notPoll a b)
  | _ => exact ⟨rfl, rfl, rfl, rfl⟩

/-- Each effect but the empty one starts from FAULT = 0. -/
theorem Effect.eq_silent_of_halted (h : Effect s i t) (halted : s.fault ≠ 0#3) : t = silent s := by
  cases h with
  | quiet => rfl
  | _ => contradiction

end Frames

/-- Settles O28: the effects that write the context are those of CTRL_INIT and POLL. -/
theorem onlyControllerWritesItsContext : Obligations.OnlyControllerWritesItsContext := by
  intro i s t h notInit notPoll
  have run := exec_cases h
  obtain ⟨state_eq, last_eq, stopping_eq, out_eq⟩ := run.keeps_context notInit notPoll
  exact ⟨state_eq, last_eq, stopping_eq, out_eq, run.keeps_ctlRdy notInit⟩

/-- Settles O29, one frame lemma for each register's owner. -/
theorem onlyClockOperationsWriteTheClock : Obligations.OnlyClockOperationsWriteTheClock := by
  intro i s t h
  have run := exec_cases h
  exact ⟨run.keeps_time, run.keeps_tickEn, run.keeps_clkRdy, run.keeps_ctlRdy⟩

theorem step_of_powerOnReset {s : State} {rest : List Event} (h : s.pending = .powerOnReset :: rest) :
    step s = .next (powerOnReset (takeEvent rest s)) :=
  step_of_pending h

/-- A halted block is left by a power-on reset alone. -/
theorem powerOnReset_next_of_fault_cleared {s t : State} (h : step s = .next t) (halted : s.fault ≠ 0#3)
    (cleared : t.fault = 0#3) : ∃ rest, s.pending = .powerOnReset :: rest := by
  rcases step_effect_cases h with ⟨_, rfl⟩ | ⟨rest, hp, _⟩ | ⟨_, rest, i, _, _, run⟩
  · exact absurd cleared halted
  · exact ⟨rest, hp⟩
  · have still : t.fault = s.fault := by simp [run.eq_silent_of_halted halted]
    exact absurd (still ▸ cleared) halted

/-- Settles O9: every effect of a halted block is the empty one, so FAULT stays until por. -/
theorem powerOnResetAloneClearsFault : Obligations.PowerOnResetAloneClearsFault :=
  ⟨fun _ _ hp => ⟨_, step_of_powerOnReset hp, rfl, rfl, rfl, rfl, rfl, rfl, rfl⟩,
    fun _ _ => powerOnReset_next_of_fault_cleared⟩

/-! ## A transition changes STATE -/

theorem dwellExit_ne_some {c : Params} {e : Millis} {d : DurName} {n s : CycleState} (h : n ≠ s) :
    dwellExit c e d n ≠ some s :=
  fun exit => h ((dwellExit_eq_some_iff c e d n s).mp exit).2

theorem soakPumpingExit_cases (c : Params) :
    soakPumpingExit c = .soakWaterHeating ∨ soakPumpingExit c = .soakWaterDraining := by
  cases h : c.soakHeatPath <;> simp [soakPumpingExit, h]

/-- NEXT never answers the state it is asked about. -/
theorem nextState_ne_self (c : Params) (s : CycleState) (e : Millis) (st sp : Bool) :
    nextState c s e st sp ≠ some s := by
  cases s with
  | soakWaterPumping =>
    have exit_ne : soakPumpingExit c ≠ .soakWaterPumping := by
      rcases soakPumpingExit_cases c with h | h <;> simp [h]
    cases sp <;> simp [nextState, dwellExit_ne_some exit_ne]
  | _ => cases st <;> cases sp <;> simp [nextState, dwellExit_eq_some_iff]

theorem moveTo_state_ne {a b sp : Bool} {cur n : CycleState} {s : State} (code : s.state = cur.code)
    (next : pollNext a b cur s = some n) : (moveTo cur n sp s).state ≠ s.state := by
  rw [moveTo_state, code, Ne, CycleState.code_eq_iff]
  rintro rfl
  exact nextState_ne_self _ _ _ _ _ next

theorem raiseFault_halts (f : Fault) (s : State) : (raiseFault f s).fault ≠ 0#3 :=
  f.code_ne_zero

/-- Settles O33: without a fault a POLL stays put or moves, and a move changes STATE. -/
theorem transitionedIffStateChanged : Obligations.TransitionedIffStateChanged := by
  intro a b s t running h noFault
  rcases execPoll_cases running h with ⟨_, rfl⟩ | ⟨_, _, rfl⟩ | ⟨_, _, _, rfl⟩ |
    ⟨_, _, cur, code, ⟨_, rfl⟩ | ⟨n, next, rfl⟩⟩
  · exact absurd noFault (raiseFault_halts _ _)
  · exact absurd noFault (raiseFault_halts _ _)
  · exact absurd noFault (raiseFault_halts _ _)
  · simp
  · have changed := moveTo_state_ne (sp := latchStop s.stopping (stopActive b)) code next
    simp only [moveTo_state] at changed
    simp [changed]

/-- Settles O34, by cases on the effect of the POLL: only a move writes LAST, and a move changes STATE. -/
theorem lastMovesWithState : Obligations.LastMovesWithState := by
  intro a b s t h
  cases exec_cases h with
  | moves _ _ cur n _ _ _ code next =>
    exact ⟨fun _ => rfl, fun same => absurd same (moveTo_state_ne code next), rfl⟩
  | _ => exact ⟨fun changed => absurd rfl changed, fun _ => rfl, rfl⟩

/-! ## The clock's and the controller's invariants -/

theorem powerOn_clockInv {c : Params} (wf : c.wf = true) (n : Nat) (evs : List Event) :
    clockInv (State.powerOn c n evs) := by
  simp [clockInv, wf]

theorem powerOn_controllerInv (c : Params) (n : Nat) (evs : List Event) : controllerInv (State.powerOn c n evs) := by
  simp [controllerInv]

theorem powerOn_noHeatInv (c : Params) (n : Nat) (evs : List Event) : noHeatInv (State.powerOn c n evs) := by
  simp [noHeatInv]

theorem config_params_wf : Config.params.wf = true := by
  simp [Config.params, Params.wf]

/-- Settles O51: no ready bit is set at power-on, so only the well-formed parameters and OUT = 0 matter. -/
theorem powerOnMeetsInvariants : Obligations.PowerOnMeetsInvariants :=
  ⟨fun c n evs wf => ⟨powerOn_clockInv wf n evs, powerOn_controllerInv c n evs, powerOn_noHeatInv c n evs⟩,
    powerOn_clockInv config_params_wf 0 [], powerOn_controllerInv _ 0 [], powerOn_noHeatInv _ 0 []⟩

theorem Effect.keeps_clockInv {i : Instr} {s t : State} (inv : clockInv s) (h : Effect s i t) : clockInv t := by
  obtain ⟨wf, fracBound, tickOnClock, contextOnClock, stopped⟩ := inv
  have den : 0 < s.params.tickDen := by simp_all [Params.wf]
  cases h with
  | starts => exact ⟨wf, fun _ => den, fun _ => rfl, fun _ => rfl, fun _ _ => ⟨rfl, rfl⟩⟩
  | enables _ clk => exact ⟨wf, fracBound, fun _ => clk, contextOnClock, fun _ off => nomatch off⟩
  | ticks _ clk en =>
    exact ⟨wf, fun _ => tickFrac_lt den _, fun _ => clk, contextOnClock, fun _ off => by simp [en] at off⟩
  | constructs _ clk => exact ⟨wf, fracBound, tickOnClock, fun _ => clk, stopped⟩
  | _ => exact ⟨wf, fracBound, tickOnClock, contextOnClock, stopped⟩

/-- Settles O48, by cases on the effect of the step; after por no bit is set. -/
theorem stepKeepsClockInvariant : Obligations.StepKeepsClockInvariant := fun _ _ =>
  step_preserves (fun _ _ inv => inv) (fun s inv => powerOn_clockInv inv.1 s.draws s.pending)
    fun _ _ _ inv run => run.keeps_clockInv inv

theorem exitMaskOf_of_symmetric {c : Params} (sym : c.symmetric = true) (s : CycleState) :
    c.exitMaskOf s = c.entryMaskOf s := by
  have tables : c.entryMask = c.exitMask := of_decide_eq_true sym
  rw [Params.exitMaskOf, Params.entryMaskOf, tables]

/-- The exit action takes the old mask away again, so that the new one alone is left (42_controller.md rule R171). -/
theorem transitionOut_of_symmetric {c : Params} (sym : c.symmetric = true) (old n : CycleState) :
    transitionOut c old n (c.entryMaskOf old) = c.entryMaskOf n := by
  rw [transitionOut_eq, exitMaskOf_of_symmetric sym, BitVec.xor_self, BitVec.zero_xor]

theorem Effect.keeps_controllerInv {i : Instr} {s t : State} (inv : controllerInv s) (h : Effect s i t) :
    controllerInv t := by
  obtain ⟨legal, dark, masked⟩ := inv
  cases h with
  | constructs _ _ ctl =>
    refine ⟨fun _ => CycleState.code_le .initialDraining, fun off => (nomatch off), fun _ _ cur code => ?_⟩
    obtain rfl : CycleState.initialDraining = cur := CycleState.code_injective code
    simp [entryAction, dark ctl]
  | moves _ _ cur n _ _ ctl code =>
    refine ⟨fun _ => n.code_le, fun off => by simp [ctl] at off, fun sym _ m codeAfter => ?_⟩
    obtain rfl : n = m := CycleState.code_injective codeAfter
    rw [moveTo_out, masked sym ctl cur code]
    exact transitionOut_of_symmetric sym cur n
  | _ => exact ⟨legal, dark, masked⟩

/-- Settles O49, by cases on the effect of the step; after por OUT is 0 and no context is built. -/
theorem stepKeepsControllerInvariant : Obligations.StepKeepsControllerInvariant := fun _ _ =>
  step_preserves (fun _ _ inv => inv) (fun s _ => powerOn_controllerInv s.params s.draws s.pending)
    fun _ _ _ inv run => run.keeps_controllerInv inv

/-! ## Runs without a power-on reset -/

theorem step_of_run_succ {k : Nat} {s t : State} (h : Host.Core.run Sys2Proof.core (k + 1) s = .next t) :
    ∃ u, step s = .next u ∧ Host.Core.run Sys2Proof.core k u = .next t := by
  obtain ⟨u, hu⟩ := step_completes s
  exact ⟨u, hu, (run_succ k hu).symm.trans h⟩

theorem noReset_next {k : Nat} {s : State} (h : noReset (k + 1) s) {ev : Event} {rest : List Event}
    (hp : s.pending = ev :: rest) : ev ≠ .powerOnReset := by
  rintro rfl
  simp [noReset, hp] at h

theorem noReset_of_step {k : Nat} {s t : State} (h : noReset (k + 1) s) (hs : step s = .next t) : noReset k t := by
  rw [noReset, step_pending hs]
  cases hp : s.pending with
  | nil => simp
  | cons ev rest =>
    have : Event.powerOnReset ∉ (ev :: rest).take (k + 1) := hp ▸ h
    exact fun mem => this (List.mem_cons_of_mem ev mem)

/-! ## The stop latch over a run -/

/-- A step that changes STATE to an idle state. -/
def arrivesIdle (s t : State) : Prop :=
  t.state ≠ s.state ∧ (t.state = CycleState.initialIdling.code ∨ t.state = CycleState.idling.code)

/-- Only a move to an idle state takes the latch away: no operation but CTRL_INIT and POLL writes it, and CTRL_INIT has no
effect on a built context. -/
theorem Effect.keeps_latch {i : Instr} {s t : State} (h : Effect s i t) (built : s.ctlRdy = true)
    (latched : s.stopping = true) : (t.ctlRdy = true ∧ t.stopping = true) ∨ arrivesIdle s t := by
  cases h with
  | constructs _ _ ctl => exact absurd (ctl.symm.trans built) Bool.false_ne_true
  | stays => exact .inl ⟨built, by simp [latched]⟩
  | moves _ _ cur n _ _ _ code next =>
    cases idle : n.isIdle with
    | false => exact .inl ⟨built, by simp [latched, idle]⟩
    | true =>
      refine .inr ⟨moveTo_state_ne code next, ?_⟩
      rcases (isIdle_iff n).mp idle with rfl | rfl
      · exact .inl rfl
      · exact .inr rfl
  | _ => exact .inl ⟨built, latched⟩

theorem step_keeps_latch {k : Nat} {s t : State} (h : step s = .next t) (noPor : noReset (k + 1) s)
    (built : s.ctlRdy = true) (latched : s.stopping = true) :
    (t.ctlRdy = true ∧ t.stopping = true) ∨ arrivesIdle s t := by
  rcases step_effect_cases h with ⟨_, rfl⟩ | ⟨rest, hp, _⟩ | ⟨_, rest, i, _, _, run⟩
  · exact .inl ⟨built, latched⟩
  · exact absurd rfl (noReset_next noPor hp)
  · exact run.keeps_latch built latched

/-- Settles O45, by induction on the number of steps: the first step keeps the latch or is itself the arrival. -/
theorem stopLatchPersists : Obligations.StopLatchPersists := by
  intro k
  induction k with
  | zero =>
    intro s t _ latched _ h
    cases h
    exact .inl latched
  | succ k ih =>
    intro s t built latched noPor h
    obtain ⟨u, first, tail⟩ := step_of_run_succ h
    rcases step_keeps_latch first noPor built latched with ⟨built', latched'⟩ | ⟨changed, idle⟩
    · rcases ih u t built' latched' (noReset_of_step noPor first) tail with still |
        ⟨j, v, w, hj, run, last, changed, idle⟩
      · exact .inl still
      · exact .inr ⟨j + 1, v, w, Nat.succ_lt_succ hj, (run_succ j first).trans run, last, changed, idle⟩
    · exact .inr ⟨0, s, u, Nat.succ_pos k, rfl, first, changed, idle⟩

/-! ## Operations that raise no fault -/

section Accepted

variable {s : State}

/-- NOP is silent, halted or not. -/
theorem exec_nop (s : State) : exec .nop s = .next (silent s) := by
  by_cases running : s.fault = 0#3
  · exact operation_of_running running
  · exact operation_of_halted running

theorem exec_clkInit_of_unstarted (running : s.fault = 0#3) (clk : s.clkRdy = false) :
    exec .clkInit s = .next (startClock s) := by
  simp [exec, execClkInit, running, clk]

theorem exec_tickEn_of_started (running : s.fault = 0#3) (clk : s.clkRdy = true) :
    exec .tickEn s = .next (enableTick s) := by
  simp [exec, execTickEn, running, clk]

theorem exec_clkNow_of_started (running : s.fault = 0#3) (clk : s.clkRdy = true) :
    exec .clkNow s = .next (respond s.millis s) := by
  simp [exec, execClkNow, running, clk]

theorem exec_ctrlInit_of_unbuilt (running : s.fault = 0#3) (clk : s.clkRdy = true) (ctl : s.ctlRdy = false) :
    exec .ctrlInit s = .next (construct s) := by
  simp [exec, execCtrlInit, running, clk, ctl]

/-- A POLL that finds the clock, the context and a legal STATE stays put or moves. -/
theorem exec_poll_of_ready (a b : Bool) (running : s.fault = 0#3) (clk : s.clkRdy = true) (ctl : s.ctlRdy = true)
    (legal : s.state.toNat ≤ 24) :
    (∃ sp, exec (.poll a b) s = .next (stayPut sp s)) ∨
    (∃ cur n sp, exec (.poll a b) s = .next (moveTo cur n sp s)) := by
  obtain ⟨t, h⟩ := exec_completes (.poll a b) s
  rcases execPoll_cases running h with ⟨off, _⟩ | ⟨_, off, _⟩ | ⟨_, _, illegal, _⟩ |
    ⟨_, _, cur, _, ⟨_, rfl⟩ | ⟨n, _, rfl⟩⟩
  · simp [clk] at off
  · simp [ctl] at off
  · omega
  · exact .inl ⟨_, h⟩
  · exact .inr ⟨cur, n, _, h⟩

end Accepted

/-! ## The environment's duty -/

/-- The block's side of phaseInv: what a phase of the boot sequence says of the registers. -/
structure AtPhase (p : BootPhase) (s : State) : Prop where
  running : s.fault = 0#3
  clkRdy : s.clkRdy = true ↔ p ≠ .off
  tickEn : s.tickEn = true ↔ p = .clockTick ∨ p = .booted
  ctlRdy : s.ctlRdy = true ↔ p = .clockCtrl ∨ p = .booted
  legal : s.ctlRdy = true → s.state.toNat ≤ 24

theorem phaseInv_iff (p : BootPhase) (s : State) :
    phaseInv p s ↔ AtPhase p s ∧ Event.powerOnReset ∉ s.pending ∧ dutifulWords p (commandWords s.pending) = true :=
  ⟨fun ⟨running, clk, en, ctl, legal, duty⟩ => ⟨⟨running, clk, en, ctl, legal⟩, duty⟩,
    fun ⟨⟨running, clk, en, ctl, legal⟩, duty⟩ => ⟨running, clk, en, ctl, legal, duty⟩⟩

/-- The operations that dutyNext allows in a phase, and the phase that each leads to. -/
inductive DutyMove : BootPhase → Instr → BootPhase → Prop where
  | nop (p : BootPhase) : DutyMove p .nop p
  | clkInit : DutyMove .off .clkInit .clock
  | tickEnFirst : DutyMove .clock .tickEn .clockTick
  | tickEnLast : DutyMove .clockCtrl .tickEn .booted
  | clkNow (p : BootPhase) (started : p ≠ .off) : DutyMove p .clkNow p
  | ctrlInitFirst : DutyMove .clock .ctrlInit .clockCtrl
  | ctrlInitLast : DutyMove .clockTick .ctrlInit .booted
  | poll (a b : Bool) : DutyMove .booted (.poll a b) .booted

theorem dutyMove_of_dutyNext {p q : BootPhase} {w : Cmd} (h : dutyNext p w = some q) :
    ∃ i, decode w = .op i ∧ DutyMove p i q := by
  cases hd : decode w with
  | reservedBits => simp [dutyNext, hd] at h
  | op i =>
    refine ⟨i, rfl, ?_⟩
    simp only [dutyNext, hd] at h
    cases i with
    | nop =>
      cases h
      exact .nop p
    | clkInit =>
      cases p <;> cases h
      exact .clkInit
    | tickEn =>
      cases p <;> cases h
      · exact .tickEnFirst
      · exact .tickEnLast
    | clkTick => cases h
    | clkNow =>
      cases p <;> cases h <;> exact .clkNow _ (by decide)
    | ctrlInit =>
      cases p <;> cases h
      · exact .ctrlInitFirst
      · exact .ctrlInitLast
    | poll a b =>
      cases p <;> cases h
      exact .poll a b
    | reservedOp => cases h

theorem dutifulWords_cons (p : BootPhase) (w : Cmd) (ws : List Cmd) :
    dutifulWords p (w :: ws) = true ↔ ∃ q, dutyNext p w = some q ∧ dutifulWords q ws = true := by
  cases h : dutyNext p w <;> simp [dutifulWords, h]

@[simp] theorem commandWords_tickStrobe (evs : List Event) :
    commandWords (.tickStrobe :: evs) = commandWords evs := rfl

@[simp] theorem commandWords_command (w : Cmd) (evs : List Event) :
    commandWords (.command w :: evs) = w :: commandWords evs := rfl

section Phases

variable {p q : BootPhase} {i : Instr} {s t : State}

/-- A phase speaks of five registers only. -/
theorem AtPhase.of_registers (h : AtPhase p s) (fault_eq : t.fault = s.fault) (clkRdy_eq : t.clkRdy = s.clkRdy)
    (tickEn_eq : t.tickEn = s.tickEn) (ctlRdy_eq : t.ctlRdy = s.ctlRdy)
    (legal : t.state = s.state ∨ t.state.toNat ≤ 24) : AtPhase p t where
  running := fault_eq ▸ h.running
  clkRdy := clkRdy_eq ▸ h.clkRdy
  tickEn := tickEn_eq ▸ h.tickEn
  ctlRdy := ctlRdy_eq ▸ h.ctlRdy
  legal built := legal.elim (fun same => same ▸ h.legal (ctlRdy_eq ▸ built)) id

theorem AtPhase.tick (h : AtPhase p s) (tick : Effect s .clkTick t) : AtPhase p t := by
  cases tick with
  | faults _ _ _ notTick => exact absurd rfl notTick
  | quiet => exact h.of_registers rfl rfl rfl rfl (.inl rfl)
  | ticks => exact h.of_registers rfl rfl rfl rfl (.inl rfl)

theorem AtPhase.startClock (h : AtPhase .off s) : AtPhase .clock (startClock s) where
  running := h.running
  clkRdy := by simp
  tickEn := by simpa using h.tickEn
  ctlRdy := by simpa using h.ctlRdy
  legal := h.legal

theorem AtPhase.enableTick (h : AtPhase p s) (move : DutyMove p .tickEn q) : AtPhase q (enableTick s) where
  running := h.running
  clkRdy := by cases move <;> simpa using h.clkRdy
  tickEn := by cases move <;> simp
  ctlRdy := by cases move <;> simpa using h.ctlRdy
  legal := h.legal

theorem AtPhase.construct (h : AtPhase p s) (move : DutyMove p .ctrlInit q) : AtPhase q (construct s) where
  running := h.running
  clkRdy := by cases move <;> simpa using h.clkRdy
  tickEn := by cases move <;> simpa using h.tickEn
  ctlRdy := by cases move <;> simp
  legal _ := CycleState.code_le .initialDraining

/-- An operation that the duty allows raises no fault and leads to the phase it should. -/
theorem AtPhase.exec (h : AtPhase p s) (move : DutyMove p i q) : ∃ t, exec i s = .next t ∧ AtPhase q t := by
  cases move with
  | nop => exact ⟨_, exec_nop s, h.of_registers rfl rfl rfl rfl (.inl rfl)⟩
  | clkInit =>
    have clk : s.clkRdy = false := by simpa using h.clkRdy
    exact ⟨_, exec_clkInit_of_unstarted h.running clk, h.startClock⟩
  | tickEnFirst =>
    have clk : s.clkRdy = true := by simpa using h.clkRdy
    exact ⟨_, exec_tickEn_of_started h.running clk, h.enableTick .tickEnFirst⟩
  | tickEnLast =>
    have clk : s.clkRdy = true := by simpa using h.clkRdy
    exact ⟨_, exec_tickEn_of_started h.running clk, h.enableTick .tickEnLast⟩
  | clkNow _ started =>
    have clk : s.clkRdy = true := h.clkRdy.mpr started
    exact ⟨_, exec_clkNow_of_started h.running clk, h.of_registers rfl rfl rfl rfl (.inl rfl)⟩
  | ctrlInitFirst =>
    have clk : s.clkRdy = true := by simpa using h.clkRdy
    have ctl : s.ctlRdy = false := by simpa using h.ctlRdy
    exact ⟨_, exec_ctrlInit_of_unbuilt h.running clk ctl, h.construct .ctrlInitFirst⟩
  | ctrlInitLast =>
    have clk : s.clkRdy = true := by simpa using h.clkRdy
    have ctl : s.ctlRdy = false := by simpa using h.ctlRdy
    exact ⟨_, exec_ctrlInit_of_unbuilt h.running clk ctl, h.construct .ctrlInitLast⟩
  | poll a b =>
    have clk : s.clkRdy = true := by simpa using h.clkRdy
    have ctl : s.ctlRdy = true := by simpa using h.ctlRdy
    obtain ⟨sp, stays⟩ | ⟨cur, n, sp, moves⟩ := exec_poll_of_ready a b h.running clk ctl (h.legal ctl)
    · exact ⟨_, stays, h.of_registers rfl rfl rfl rfl (.inl rfl)⟩
    · exact ⟨_, moves, h.of_registers rfl rfl rfl rfl (.inr n.code_le)⟩

end Phases

/-- The step itself, before it is judged. -/
theorem step_keeps_duty {p : BootPhase} {s : State} (inv : phaseInv p s) :
    ∃ t q, step s = .next t ∧ phaseInv q t := by
  obtain ⟨stands, noPor, words⟩ := (phaseInv_iff p s).mp inv
  rcases step_cases s with ⟨_, hs⟩ | ⟨ev, rest, hp, hs⟩
  · exact ⟨s, p, hs, inv⟩
  have taken : AtPhase p (takeEvent rest s) := stands.of_registers rfl rfl rfl rfl (.inl rfl)
  rw [hp] at noPor words
  have noPorLater : Event.powerOnReset ∉ rest := fun mem => noPor (List.mem_cons_of_mem ev mem)
  rw [hs]
  cases ev with
  | powerOnReset => exact absurd List.mem_cons_self noPor
  | tickStrobe =>
    obtain ⟨t, ht⟩ := exec_completes .clkTick (takeEvent rest s)
    have tick := exec_cases ht
    have pending_eq : t.pending = rest := tick.keeps_environment.2.1
    exact ⟨t, p, ht, (phaseInv_iff p t).mpr ⟨taken.tick tick, by rwa [pending_eq], by simpa [pending_eq] using words⟩⟩
  | command w =>
    obtain ⟨q, allowed, wordsLater⟩ := (dutifulWords_cons p w _).mp words
    obtain ⟨i, hd, move⟩ := dutyMove_of_dutyNext allowed
    obtain ⟨t, ht, standsAfter⟩ := taken.exec move
    have pending_eq : t.pending = rest := (exec_cases ht).keeps_environment.2.1
    have runs : runCommand w (takeEvent rest s) = .next t := by simp only [runCommand, hd, ht]
    exact ⟨t, q, runs, (phaseInv_iff q t).mpr ⟨standsAfter, by rwa [pending_eq], by rwa [pending_eq]⟩⟩

theorem judgedStep_of_running {s t : State} (h : step s = .next t) (running : t.fault = 0#3) :
    judgedStep s = .next t := by
  simp [judgedStep, judge, h, running]

/-- Settles O58: the step goes on to a state of some phase, whose FAULT is 0, so judging it changes nothing. -/
theorem stepKeepsDutyInvariant : Obligations.StepKeepsDutyInvariant := by
  rintro s ⟨p, inv⟩
  obtain ⟨t, q, ht, invAfter⟩ := step_keeps_duty inv
  exact ⟨t, judgedStep_of_running ht ((phaseInv_iff q t).mp invAfter).1.running, q, invAfter⟩

theorem powerOn_atPhase (c : Params) (n : Nat) (evs : List Event) : AtPhase .off (State.powerOn c n evs) where
  running := rfl
  clkRdy := by simp
  tickEn := by simp
  ctlRdy := by simp
  legal built := nomatch built

/-- Settles O59. The drawn registers do not matter: the phase off says nothing of them. -/
theorem powerOnMeetsDutyInvariant : Obligations.PowerOnMeetsDutyInvariant := by
  intro c n evs duty
  obtain ⟨noPor, words⟩ : Event.powerOnReset ∉ evs ∧ dutifulWords .off (commandWords evs) = true := by
    simpa [dutiful] using duty
  have inv : phaseInv .off (State.powerOn c n evs) := (phaseInv_iff _ _).mpr ⟨powerOn_atPhase c n evs, noPor, words⟩
  exact ⟨inv, .off, inv⟩

/-! ## The ports -/

theorem actuator_iff_mask (s : State) (a : Actuator) : s.actuator a = true ↔ s.out &&& a.mask ≠ 0#11 := by
  have mask_ne : a.mask ≠ 0#11 := by cases a <;> decide
  rw [Actuator.mask] at mask_ne ⊢
  cases driven : s.out.getLsbD a.bit <;> simp [State.actuator, BitVec.and_twoPow, driven, mask_ne]

/-- Settles O57: the ports are the registers, and a mask holds one bit. -/
theorem portsShowOutAndFault : Obligations.PortsShowOutAndFault := by
  intro s
  refine ⟨rfl, rfl, fun v responded => ?_, actuator_iff_mask s, by decide⟩
  simp [State.ports, responded]

end Sys2Proof.Machine
end

section
/-! SUPPORT. The two agents' operations in their total order, one atomic step each (20_memory.md rules R57 and R58), and the byte
order of a response on an 8-bit port (rule R52). -/

namespace Sys2Proof.Machine

/-! ## The step that takes a given event -/

section Agents

variable {s : State} {rest : List Event}

theorem step_of_tickStrobe (h : s.pending = .tickStrobe :: rest) : step s = exec .clkTick (takeEvent rest s) :=
  step_of_pending h

theorem step_of_command {w : Cmd} {i : Instr} (h : s.pending = .command w :: rest) (decoded : decode w = .op i) :
    step s = exec i (takeEvent rest s) := by
  rw [step_of_pending h, runEvent, runCommand, decoded]

/-- Settles O6: taking the event is all that the step adds. -/
theorem stepRunsDecodedCommand : Obligations.StepRunsDecodedCommand :=
  fun _ _ _ _ pending decoded _ => step_of_command pending decoded

theorem exec_clkTick_of_enabled (running : s.fault = 0#3) (clk : s.clkRdy = true) (en : s.tickEn = true) :
    exec .clkTick s = .next (advanceClock s) := by
  simp [exec, execClkTick, running, clk, en]

theorem step_tickStrobe_of_enabled (h : s.pending = .tickStrobe :: rest) (running : s.fault = 0#3)
    (clk : s.clkRdy = true) (en : s.tickEn = true) : step s = .next (advanceClock (takeEvent rest s)) :=
  (step_of_tickStrobe h).trans (exec_clkTick_of_enabled running clk en)

theorem step_clkNow_of_started (h : s.pending = .command 0x04#8 :: rest) (running : s.fault = 0#3)
    (clk : s.clkRdy = true) : step s = .next (respond s.millis (takeEvent rest s)) :=
  (step_of_command h (by decide)).trans (exec_clkNow_of_started running clk)

end Agents

/-! ## A tick and a CLK_NOW together -/

theorem run_one {s t : State} (h : step s = .next t) : Host.Core.run Sys2Proof.core 1 s = .next t :=
  run_succ 0 h

theorem run_two {s t u : State} (first : step s = .next t) (second : step t = .next u) :
    Host.Core.run Sys2Proof.core 2 s = .next u :=
  (run_succ 1 first).trans (run_one second)

/-- Settles O44. Neither operation touches what lets the other run, and CLK_NOW writes neither MILLIS nor FRAC, so the tick
computes them from the same values in both orders. -/
theorem tickAndClkNowInEitherOrder : Obligations.TickAndClkNowInEitherOrder := by
  intro s rest running clk en
  have tickFirst := step_tickStrobe_of_enabled (s := { s with pending := .tickStrobe :: .command 0x04#8 :: rest })
    rfl running clk en
  have thenNow := step_clkNow_of_started (s := advanceClock (takeEvent (.command 0x04#8 :: rest) _)) rfl running clk
  have nowFirst := step_clkNow_of_started (s := { s with pending := .command 0x04#8 :: .tickStrobe :: rest })
    rfl running clk
  have thenTick := step_tickStrobe_of_enabled (s := respond s.millis (takeEvent (.tickStrobe :: rest) _))
    rfl running clk en
  exact ⟨_, _, _, run_two tickFirst thenNow, run_one nowFirst, run_two nowFirst thenTick,
    rfl, rfl, rfl, rfl, rfl, rfl⟩

/-! ## The byte order of a serialised response -/

theorem serialise_eq_map (v : BitVec 32) : serialise v = (List.range 4).map fun i => v.extractLsb' (8 * i) 8 := rfl

theorem serialise_getD (v : BitVec 32) {i : Nat} (h : i < 4) : (serialise v).getD i 0 = v.extractLsb' (8 * i) 8 := by
  simp [serialise_eq_map, h]

/-- Settles O56: the i-th byte is cut out of the value at bit 8 i. -/
theorem serialisedLeastSignificantFirst : Obligations.SerialisedLeastSignificantFirst := by
  refine fun v => ⟨rfl, fun i j hi hj => ?_⟩
  rw [serialise_getD v hi, BitVec.getLsbD_extractLsb']
  simp [hj]

end Sys2Proof.Machine
end

section
/-! SUPPORT. The decoder and the encoder (30_encoding.md rules R70 to R81): what a word's fields say, one equation for each class
of words, the round trip, the counts, and the words of the stimulus syntax; then what the words that no operation claims do. -/

namespace Sys2Proof

/-! ## The fields of a word -/

section Fields

variable (w : Cmd)

theorem opField_eq_iff (k : BitVec 3) : opField w = k ↔ w &&& 0x07#8 = k.setWidth 8 := by
  have mask : (0x07#8).toNat = 2 ^ 3 - 1 := rfl
  have bound := k.isLt
  rw [← BitVec.toNat_inj, ← BitVec.toNat_inj, BitVec.toNat_and, mask, Nat.and_two_pow_sub_one_eq_mod]
  simp only [opField, BitVec.extractLsb'_toNat, BitVec.toNat_setWidth, Nat.shiftRight_zero]
  omega

theorem upperBits_eq_zero_iff : w.extractLsb' 3 5 = 0#5 ↔ w >>> 3 = 0#8 := by
  rw [← BitVec.toNat_inj, ← BitVec.toNat_inj]
  simp only [BitVec.extractLsb'_toNat, BitVec.toNat_ushiftRight, BitVec.toNat_ofNat, Nat.shiftRight_eq_div_pow]
  omega

theorem rsvField_eq_zero_iff : rsvField w = 0#3 ↔ w >>> 5 = 0#8 := by
  rw [← BitVec.toNat_inj, ← BitVec.toNat_inj]
  simp only [rsvField, BitVec.extractLsb'_toNat, BitVec.toNat_ushiftRight, BitVec.toNat_ofNat,
    Nat.shiftRight_eq_div_pow]
  omega

end Fields


/-- A word without upper bits is its operation code. -/
theorem eq_op_of_upperBits_eq_zero {w : Cmd} (upper : w >>> 3 = 0#8) : w = w &&& 0x07#8 := by
  have mask : (0x07#8).toNat = 2 ^ 3 - 1 := rfl
  have small : w.toNat / 2 ^ 3 = 0 := by
    simpa [BitVec.toNat_ushiftRight, Nat.shiftRight_eq_div_pow] using congrArg BitVec.toNat upper
  rw [← BitVec.toNat_inj, BitVec.toNat_and, mask, Nat.and_two_pow_sub_one_eq_mod]
  omega

/-- Any bit of w[7:5] is a bit of w[7:3]. -/
theorem upperBits_ne_zero_of_rsv {w : Cmd} (rsv : w >>> 5 ≠ 0#8) : w >>> 3 ≠ 0#8 := by
  intro upper
  have shifted : w >>> 5 = (w >>> 3) >>> 2 := by rw [BitVec.shiftRight_add w 3 2]
  exact rsv (by rw [shifted, upper]; rfl)

/-- A word is its four fields in a row (30_encoding.md rule R70), by the field that a bit's position lies in. -/
theorem eq_append_fields (w : Cmd) :
    w = rsvField w ++ BitVec.ofBool (stopPinField w) ++ BitVec.ofBool (startPinField w) ++ opField w := by
  apply BitVec.eq_of_getLsbD_eq
  intro i hi
  simp only [rsvField, stopPinField, startPinField, opField, BitVec.getLsbD_append, BitVec.getLsbD_extractLsb',
    BitVec.getLsbD_ofBool]
  grind

/-! ## One equation for each class of words -/

/-- The operations of exactly one word: no bit of it is an operand and none is ignored (30_encoding.md rule R74). -/
def fixedInstrs : List Instr := [.clkInit, .tickEn, .clkTick, .clkNow, .ctrlInit]

/-- The four classes of operation codes that 30_encoding.md rule R78 tells apart. -/
theorem op_cases (w : Cmd) :
    w &&& 0x07#8 = 0#8 ∨ w &&& 0x07#8 = 7#8 ∨ w &&& 0x07#8 = 6#8 ∨
    ∃ i ∈ fixedInstrs, w &&& 0x07#8 = encode i := by
  have codes : ∀ k : BitVec 3, k.setWidth 8 = 0#8 ∨ k.setWidth 8 = 7#8 ∨ k.setWidth 8 = 6#8 ∨
      ∃ i ∈ fixedInstrs, k.setWidth 8 = encode i := by decide
  rw [(opField_eq_iff w _).mp rfl]
  exact codes (opField w)

section Equations

variable {w : Cmd}

theorem decode_of_op_nop (op : w &&& 0x07#8 = 0#8) : decode w = .op .nop := by
  rw [decode, (opField_eq_iff w 0#3).mpr op]
  rfl

theorem decode_of_op_reserved (op : w &&& 0x07#8 = 7#8) : decode w = .op .reservedOp := by
  rw [decode, (opField_eq_iff w 7#3).mpr op]
  rfl

theorem decode_of_op_poll (op : w &&& 0x07#8 = 6#8) :
    decode w = if w >>> 5 = 0#8 then .op (.poll (w.getLsbD 3) (w.getLsbD 4)) else .reservedBits := by
  rw [decode, (opField_eq_iff w 6#3).mpr op]
  simp only [← rsvField_eq_zero_iff]
  rfl

theorem decodeFixed_eq (w : Cmd) (i : Instr) :
    decodeFixed w i = if w >>> 3 = 0#8 then .op i else .reservedBits := by
  simp only [decodeFixed, upperBits_eq_zero_iff]

theorem decode_of_op_fixed {i : Instr} (fixed : i ∈ fixedInstrs) (op : w &&& 0x07#8 = encode i) :
    decode w = if w >>> 3 = 0#8 then .op i else .reservedBits := by
  have field : opField w = (encode i).setWidth 3 := by
    have codes : ∀ i ∈ fixedInstrs, encode i = ((encode i).setWidth 3).setWidth 8 := by decide
    exact (opField_eq_iff w _).mpr (op.trans (codes i fixed))
  rw [decode, field, ← decodeFixed_eq]
  cases i with
  | nop | poll | reservedOp => simp [fixedInstrs] at fixed
  | clkInit | tickEn | clkTick | clkNow | ctrlInit => rfl

/-- A word with a stray bit is rejected: one of w[7:5], or outside POLL one of w[7:3] (30_encoding.md rule R73). -/
theorem decode_of_stray_bits (notNop : w &&& 0x07#8 ≠ 0#8) (notReserved : w &&& 0x07#8 ≠ 7#8)
    (stray : w >>> 5 ≠ 0#8 ∨ w &&& 0x07#8 ≠ 6#8 ∧ w >>> 3 ≠ 0#8) : decode w = .reservedBits := by
  rcases op_cases w with nop | reserved | poll | ⟨i, fixed, op⟩
  · exact absurd nop notNop
  · exact absurd reserved notReserved
  · have rsv : w >>> 5 ≠ 0#8 := stray.resolve_right fun outside => outside.left poll
    rw [decode_of_op_poll poll, if_neg rsv]
  · have upper : w >>> 3 ≠ 0#8 := stray.elim upperBits_ne_zero_of_rsv And.right
    rw [decode_of_op_fixed fixed op, if_neg upper]

end Equations

/-! ## The round trip -/

theorem decode_encode (i : Instr) : decode (encode i) = .op i := by
  cases i with
  | poll startPin stopPin => cases startPin <;> cases stopPin <;> rfl
  | _ => rfl

/-- Every word that decodes to an operation: any word of NOP's or the reserved OP, else the operation's own word. -/
theorem decode_eq_op_cases {w : Cmd} {i : Instr} (h : decode w = .op i) :
    (i = .nop ∧ w &&& 0x07#8 = 0#8) ∨ (i = .reservedOp ∧ w &&& 0x07#8 = 7#8) ∨ w = encode i := by
  rcases op_cases w with op | op | op | ⟨j, fixed, op⟩
  · rw [decode_of_op_nop op] at h
    cases h
    exact .inl ⟨rfl, op⟩
  · rw [decode_of_op_reserved op] at h
    cases h
    exact .inr (.inl ⟨rfl, op⟩)
  · rw [decode_of_op_poll op] at h
    split at h
    next rsv =>
      cases h
      have fields := eq_append_fields w
      rw [(rsvField_eq_zero_iff w).mpr rsv, (opField_eq_iff w 6#3).mpr op] at fields
      exact .inr (.inr fields)
    next => cases h
  · rw [decode_of_op_fixed fixed op] at h
    split at h
    next upper =>
      cases h
      exact .inr (.inr ((eq_op_of_upperBits_eq_zero upper).trans op))
    next => cases h

/-- Settles O1: only NOP and the reserved OP ignore bits, and their words share the OP field. -/
theorem decodeAndEncodeAgree : Obligations.DecodeAndEncodeAgree := by
  refine ⟨fun i _ => decode_encode i, fun w i h notNop notReserved => ?_, fun w i h => ?_⟩
  · rcases decode_eq_op_cases h with ⟨nop, _⟩ | ⟨reserved, _⟩ | word
    · exact absurd nop notNop
    · exact absurd reserved notReserved
    · exact word.symm
  · rcases decode_eq_op_cases h with ⟨rfl, op⟩ | ⟨rfl, op⟩ | word
    · exact op
    · exact op
    · rw [word]

/-- Settles O2: an equation for each class, and each class counted over the 256 words. -/
theorem decodeFollowsItsRule : Obligations.DecodeFollowsItsRule := by
  refine ⟨fun w => ⟨decode_of_op_nop, decode_of_op_reserved, decode_of_op_poll, ?_, ?_, ?_, ?_, ?_⟩,
    rfl, rfl, rfl, rfl, rfl, rfl, rfl⟩
  · exact decode_of_op_fixed (i := .clkInit) (by decide)
  · exact decode_of_op_fixed (i := .tickEn) (by decide)
  · exact decode_of_op_fixed (i := .clkTick) (by decide)
  · exact decode_of_op_fixed (i := .clkNow) (by decide)
  · exact decode_of_op_fixed (i := .ctrlInit) (by decide)

/-! ## Words written out -/

/-- Settles O3: five of the words are the encoder's own, and the others fall under the equations of their classes. -/
theorem knownWordsDecode : Obligations.KnownWordsDecode :=
  ⟨decode_of_op_nop (by decide), decode_encode .clkInit, decode_encode .tickEn, decode_encode .clkTick,
    decode_encode .clkNow, decode_encode .ctrlInit, decode_of_op_reserved (by decide),
    decode_of_stray_bits (by decide) (by decide) (.inr (by decide)),
    decode_of_stray_bits (by decide) (by decide) (.inl (by decide))⟩

/-- Settles O4: the words are the encoder's own, and a start pin is active at the level of START_ACTIVE_LEVEL. -/
theorem pollWordsAndTheirPins : Obligations.PollWordsAndTheirPins := by
  refine ⟨decode_encode (.poll false false), decode_encode (.poll true false), decode_encode (.poll false true),
    decode_encode (.poll true true), fun c => ⟨fun high => ?_, fun low => ?_, rfl, rfl⟩⟩
  · simp [Machine.starting, high]
  · simp [Machine.starting, low]

/-- Settles O5: TICKS n copies one word, and the other expansions are fixed lists. -/
theorem pseudoInstructionWords : Obligations.PseudoInstructionWords := by
  refine ⟨rfl, fun n => ?_, fun b => ⟨rfl, rfl, rfl⟩, rfl, rfl, rfl⟩
  simp only [Machine.asmTicks, List.map_replicate, encode]

namespace Machine

/-! ## What no operation claims, and who responds -/

/-- Settles O32, by cases on the effect: CLK_NOW and the two POLLs without a fault respond, and each keeps FAULT = 0. -/
theorem onlyClkNowAndPollRespond : Obligations.OnlyClkNowAndPollRespond := by
  intro i s t v h responded
  cases exec_cases h with
  | responds running => exact ⟨running, .inl ⟨rfl, (Option.some.inj responded).symm⟩⟩
  | stays a b _ running => exact ⟨running, .inr ⟨a, b, rfl, .inl (Option.some.inj responded).symm⟩⟩
  | moves a b _ _ running => exact ⟨running, .inr ⟨a, b, rfl, .inr (Option.some.inj responded).symm⟩⟩
  | _ => cases responded

/-- Settles O7: the word 0x03 is CLK_TICK's own, so both steps run it on the state with the event taken. -/
theorem tickStrobeIsClkTick : Obligations.TickStrobeIsClkTick := by
  intro s rest
  have strobe := step_of_tickStrobe (s := { s with pending := .tickStrobe :: rest }) rfl
  have word := step_of_command (s := { s with pending := .command 0x03#8 :: rest }) rfl (decode_encode .clkTick)
  exact ⟨strobe.trans word.symm, strobe⟩

section DecodeFaults

variable {s : State} {w : Cmd} {rest : List Event}

theorem exec_reservedOp_of_running (running : s.fault = 0#3) :
    exec .reservedOp s = .next (raiseFault .reservedOp s) :=
  operation_of_running running

theorem rejectReservedBits_of_running (running : s.fault = 0#3) :
    rejectReservedBits s = .next (raiseFault .reservedBits s) :=
  operation_of_running running

theorem runCommand_of_decode_op {i : Instr} (decoded : decode w = .op i) : runCommand w s = exec i s := by
  rw [runCommand, decoded]

theorem step_of_rejected_command (h : s.pending = .command w :: rest) (rejected : decode w = .reservedBits) :
    step s = rejectReservedBits (takeEvent rest s) := by
  rw [step_of_pending h, runEvent, runCommand, rejected]

end DecodeFaults

/-- Settles O22: a word with OP = 111 runs the reserved operation code, which raises the fault. -/
theorem reservedOpFaults : Obligations.ReservedOpFaults :=
  ⟨fun _ running => exec_reservedOp_of_running running, fun _ _ op running =>
    (runCommand_of_decode_op (decode_of_op_reserved op)).trans (exec_reservedOp_of_running running)⟩

/-- Settles O25: the decoder rejects the word, and taking the event leaves FAULT = 0 for the rejection to write. -/
theorem strayBitsRaiseReservedBits : Obligations.StrayBitsRaiseReservedBits :=
  fun _ _ _ pending running notNop notReserved stray =>
    (step_of_rejected_command pending (decode_of_stray_bits notNop notReserved stray)).trans
      (rejectReservedBits_of_running running)

end Machine

end Sys2Proof
end

section
/-! SUPPORT. The Monotonic Clock (40_clock.md): what each of its operations answers, who moves MILLIS and FRAC, elapsed time
across a wrap (rule R108), and the exact count of accepted ticks over a run (rule R109). -/

namespace Sys2Proof.Machine

open Sys2Proof.Safety

/-! ## What each clock operation answers -/

section Operations

variable {s : State}

theorem exec_clkInit_of_started (running : s.fault = 0#3) (clk : s.clkRdy = true) :
    exec .clkInit s = .next (raiseFault .clockReinit s) := by
  simp [exec, execClkInit, running, clk]

theorem exec_tickEn_of_unstarted (running : s.fault = 0#3) (clk : s.clkRdy = false) :
    exec .tickEn s = .next (raiseFault .clockUninit s) := by
  simp [exec, execTickEn, running, clk]

theorem exec_clkNow_of_unstarted (running : s.fault = 0#3) (clk : s.clkRdy = false) :
    exec .clkNow s = .next (raiseFault .clockUninit s) := by
  simp [exec, execClkNow, running, clk]

/-- A halted block's operations are silent (60_exceptions.md rule R202). -/
theorem exec_of_halted (i : Instr) (halted : s.fault ≠ 0#3) : exec i s = .next (silent s) := by
  obtain ⟨body, run⟩ := exec_eq_operation i s
  exact run.trans (operation_of_halted halted)

/-- A tick on a clock that is stopped, not enabled, or part of a halted block is dropped. -/
theorem exec_clkTick_of_dropped (dropped : s.fault ≠ 0#3 ∨ s.clkRdy = false ∨ s.tickEn = false) :
    exec .clkTick s = .next (silent s) := by
  by_cases running : s.fault = 0#3
  · rcases dropped with halted | off | off
    · exact absurd running halted
    · simp [exec, execClkTick, running, off]
    · simp [exec, execClkTick, running, off]
  · exact exec_of_halted .clkTick running

/-- A word with the OP field of a one-word operation but another word than its own has a stray bit (30_encoding.md rule R73). -/
theorem runCommand_of_stray_fixed {w : Cmd} {i : Instr} (fixed : i ∈ fixedInstrs) (op : w &&& 0x07#8 = encode i)
    (other : w ≠ encode i) (running : s.fault = 0#3) : runCommand w s = .next (raiseFault .reservedBits s) := by
  have upper : w >>> 3 ≠ 0#8 := fun unset => other ((eq_op_of_upperBits_eq_zero unset).trans op)
  rw [runCommand, decode_of_op_fixed fixed op, if_neg upper]
  exact rejectReservedBits_of_running running

end Operations

/-- Settles O13: every word with OP = 000 decodes to NOP, which is silent in every state. -/
theorem nopDoesNothing : Obligations.NopDoesNothing :=
  ⟨exec_nop, fun _ s op => (runCommand_of_decode_op (decode_of_op_nop op)).trans (exec_nop s)⟩

/-- Settles O14, one equation of CLK_INIT for each value of CLK_RDY. -/
theorem clkInitStartsClock : Obligations.ClkInitStartsClock :=
  ⟨fun _ => exec_clkInit_of_unstarted, fun _ => exec_clkInit_of_started, decode_encode .clkInit,
    fun _ _ => runCommand_of_stray_fixed (i := .clkInit) (by decide)⟩

/-- Settles O17, one equation of CLK_NOW for each value of CLK_RDY. -/
theorem clkNowRespondsMillis : Obligations.ClkNowRespondsMillis :=
  ⟨fun _ => exec_clkNow_of_started, fun _ => exec_clkNow_of_unstarted, decode_encode .clkNow,
    fun _ _ => runCommand_of_stray_fixed (i := .clkNow) (by decide)⟩

/-! ## Who enables the tick and who moves a started clock -/

section StartedClock

variable {i : Instr} {s t : State}

theorem Effect.keeps_tickEn_set (h : Effect s i t) (en : s.tickEn = true) : t.tickEn = true := by
  cases h with
  | enables => rfl
  | _ => exact en

theorem Effect.keeps_clkRdy_set (h : Effect s i t) (clk : s.clkRdy = true) : t.clkRdy = true := by
  cases h with
  | starts => rfl
  | _ => exact clk

/-- CLK_INIT has no effect on a started clock but its fault, so only an accepted tick moves it. -/
theorem Effect.time_of_started (h : Effect s i t) (clk : s.clkRdy = true) :
    (t.millis = s.millis ∧ t.frac = s.frac) ∨ (i = .clkTick ∧ s.tickEn = true) := by
  cases h with
  | starts _ off => exact absurd (off.symm.trans clk) Bool.false_ne_true
  | ticks _ _ en => exact .inr ⟨rfl, en⟩
  | _ => exact .inl ⟨rfl, rfl⟩

/-- A tick writes MILLIS and FRAC and nothing else, and gives no response. -/
theorem Effect.tick_frame (h : Effect s .clkTick t) : t = { s with millis := t.millis, frac := t.frac, resp := none } := by
  cases h with
  | quiet => rfl
  | ticks => rfl
  | faults _ _ _ notTick => exact absurd rfl notTick

end StartedClock

/-- Settles O15: the equations of TICK_EN, and for the clauses on every operation the cases on its effect. -/
theorem tickEnEnablesTick : Obligations.TickEnEnablesTick := by
  refine ⟨fun _ => exec_tickEn_of_started, fun _ => exec_tickEn_of_unstarted,
    fun _ _ _ h => (exec_cases h).keeps_tickEn_set, fun i s t h clk off => ?_, decode_encode .tickEn,
    fun _ _ => runCommand_of_stray_fixed (i := .tickEn) (by decide)⟩
  rcases (exec_cases h).time_of_started clk with ⟨millis_eq, _⟩ | ⟨_, en⟩
  · exact millis_eq
  · exact absurd (off.symm.trans en) Bool.false_ne_true

/-- Settles O30: the step takes the event, and the tick's frame says the rest. -/
theorem tickTouchesOnlyTheClock : Obligations.TickTouchesOnlyTheClock :=
  fun _ _ _ pending h => (exec_cases ((step_of_tickStrobe pending).symm.trans h)).tick_frame

/-! ## Arithmetic of the tick and of elapsed time -/

/-- FRAC below TICK_DEN carries at most one millisecond into the whole part of the tick period. -/
theorem tick_increment_cases {den frac : Nat} (bound : frac < den) (num : Nat) :
    (frac + num) / den = num / den ∨ (frac + num) / den = num / den + 1 := by
  have den_pos : 0 < den := Nat.zero_lt_of_lt bound
  rw [Nat.add_div den_pos, Nat.div_eq_of_lt bound, Nat.zero_add]
  split
  · exact .inr rfl
  · exact .inl rfl

/-- Settles O16: an accepted tick is advanceClock, a dropped one is silent. -/
theorem clkTickAdvancesClock : Obligations.ClkTickAdvancesClock :=
  ⟨fun _ => exec_clkTick_of_enabled, fun _ _ off => exec_clkTick_of_dropped (.inr off),
    fun _ _ bound => tick_increment_cases bound _, decode_encode .clkTick,
    fun _ _ => runCommand_of_stray_fixed (i := .clkTick) (by decide)⟩

theorem add_elapsed (a b : Millis) : a + elapsed b a = b :=
  add_sub_cancel a b

theorem elapsed_add (a d : Millis) : elapsed (a + d) a = d :=
  add_sub_cancel_left a d

/-- Settles O41: elapsed is the group's subtraction, and below 2^32 the reduction loses nothing. -/
theorem elapsedAcrossWrap : Obligations.ElapsedAcrossWrap := by
  refine fun a b T => ⟨add_elapsed a b, elapsed_add a _, fun small => ?_⟩
  rw [elapsed_add, BitVec.toNat_ofNat, Nat.mod_eq_of_lt small]

/-- Dividing a sum in two stages: what the first division leaves over goes into the second. -/
theorem div_add_mod_add_div (x y den : Nat) : x / den + (x % den + y) / den = (x + y) / den := by
  rcases Nat.eq_zero_or_pos den with rfl | den_pos
  · simp
  calc x / den + (x % den + y) / den = (x % den + y + den * (x / den)) / den := by
        rw [Nat.add_mul_div_left _ _ den_pos, Nat.add_comm]
    _ = (x + y) / den := by
        rw [Nat.add_right_comm, Nat.mod_add_div]

/-! ## The exact count of accepted ticks -/

/-- The clock of t is the started clock of s after exactly n tick periods (40_clock.md rule R109). -/
structure AdvancedBy (n : Nat) (s t : State) : Prop where
  params_eq : t.params = s.params
  started : t.clkRdy = true
  millis_eq : t.millis = s.millis + BitVec.ofNat 32 ((s.frac + n * s.params.tickNum) / s.params.tickDen)
  frac_eq : t.frac = (s.frac + n * s.params.tickNum) % s.params.tickDen

section AdvancedBy

variable {m n : Nat} {s t u : State}

/-- A clock that stands still has advanced by no tick period, as FRAC < TICK_DEN holds no whole millisecond. -/
theorem AdvancedBy.of_kept (bound : s.frac < s.params.tickDen) (params_eq : t.params = s.params)
    (started : t.clkRdy = true) (millis_eq : t.millis = s.millis) (frac_eq : t.frac = s.frac) :
    AdvancedBy 0 s t where
  params_eq := params_eq
  started := started
  millis_eq := by simp [millis_eq, Nat.div_eq_of_lt bound]
  frac_eq := by simp [frac_eq, Nat.mod_eq_of_lt bound]

theorem AdvancedBy.of_tick (clk : s.clkRdy = true) (rest : List Event) :
    AdvancedBy 1 s (advanceClock (takeEvent rest s)) where
  params_eq := rfl
  started := clk
  millis_eq := by simp [tickMillis, tickTotal]
  frac_eq := by simp [tickFrac, tickTotal]

/-- Tick periods add up: FRAC carries the remainder from the first stretch into the second. -/
theorem AdvancedBy.trans (first : AdvancedBy m s u) (second : AdvancedBy n u t) : AdvancedBy (m + n) s t where
  params_eq := second.params_eq.trans first.params_eq
  started := second.started
  millis_eq := by
    rw [second.millis_eq, first.millis_eq, first.frac_eq, first.params_eq, add_assoc, ← BitVec.ofNat_add,
      div_add_mod_add_div, Nat.add_mul, Nat.add_assoc]
  frac_eq := by
    rw [second.frac_eq, first.frac_eq, first.params_eq, Nat.mod_add_mod, Nat.add_mul, Nat.add_assoc]

theorem AdvancedBy.frac_lt (h : AdvancedBy n s t) (den : 0 < s.params.tickDen) : t.frac < s.params.tickDen :=
  h.frac_eq ▸ Nat.mod_lt _ den

end AdvancedBy

section AcceptedTicks

variable {s t : State}

theorem isTick_command_iff (w : Cmd) : isTick (.command w) = true ↔ decode w = .op .clkTick := by
  refine ⟨fun tick => ?_, fun decoded => ?_⟩
  · obtain rfl : w = 0x03#8 := by simpa [isTick] using tick
    exact decode_encode .clkTick
  · rcases decode_eq_op_cases decoded with ⟨nop, _⟩ | ⟨reserved, _⟩ | rfl
    · cases nop
    · cases reserved
    · rfl

theorem runEvent_of_isTick {ev : Event} (tick : isTick ev = true) (s : State) : runEvent ev s = exec .clkTick s := by
  cases ev with
  | tickStrobe => rfl
  | command w => exact runCommand_of_decode_op ((isTick_command_iff w).mp tick)
  | powerOnReset => cases tick

/-- Every event but a tick and a power-on reset has the effect of some operation other than CLK_TICK. -/
theorem runEvent_effect_of_not_isTick {ev : Event} (notTick : isTick ev = false) (noPor : ev ≠ .powerOnReset)
    (h : runEvent ev s = .next t) : ∃ i, i ≠ .clkTick ∧ Effect s i t := by
  cases ev with
  | tickStrobe => cases notTick
  | powerOnReset => exact absurd rfl noPor
  | command w =>
    rcases runCommand_cases w s with ⟨i, decoded, run⟩ | ⟨_, rejected⟩
    · refine ⟨i, ?_, exec_cases (run.symm.trans h)⟩
      rintro rfl
      exact absurd ((isTick_command_iff w).mpr decoded) (Bool.eq_false_iff.mp notTick)
    · rcases operation_cases (rejected.symm.trans h) with ⟨running, rfl⟩ | ⟨_, rfl⟩
      · exact ⟨.reservedOp, Instr.noConfusion, .faults _ _ running Instr.noConfusion⟩
      · exact ⟨.reservedOp, Instr.noConfusion, .quiet _⟩

theorem acceptsTick_of_idle (idle : s.pending = []) : acceptsTick s = false := by
  simp [acceptsTick, idle]

theorem acceptsTick_iff {ev : Event} {rest : List Event} (pending : s.pending = ev :: rest) :
    acceptsTick s = true ↔ (s.fault = 0#3 ∧ s.clkRdy = true ∧ s.tickEn = true) ∧ isTick ev = true := by
  simp [acceptsTick, pending, and_assoc]

theorem acceptedTicks_succ (k : Nat) (h : step s = .next t) :
    acceptedTicks (k + 1) s = (acceptsTick s).toNat + acceptedTicks k t := by
  rw [acceptedTicks, h]
  cases acceptsTick s <;> rfl

/-- A step that accepts no tick leaves a started clock alone. -/
theorem step_keeps_time {k : Nat} (h : step s = .next t) (clk : s.clkRdy = true) (noPor : noReset (k + 1) s)
    (dropped : acceptsTick s = false) : t.clkRdy = true ∧ t.millis = s.millis ∧ t.frac = s.frac := by
  rcases step_cases s with ⟨_, idle⟩ | ⟨ev, rest, pending, run⟩
  · cases idle.symm.trans h
    exact ⟨clk, rfl, rfl⟩
  have h := run.symm.trans h
  cases tick : isTick ev with
  | true =>
    have off : ¬ (s.fault = 0#3 ∧ s.clkRdy = true ∧ s.tickEn = true) := fun on =>
      Bool.eq_false_iff.mp dropped ((acceptsTick_iff pending).mpr ⟨on, tick⟩)
    simp only [not_and_or, Bool.not_eq_true] at off
    have quiet := exec_clkTick_of_dropped (s := takeEvent rest s) off
    cases quiet.symm.trans ((runEvent_of_isTick tick _).symm.trans h)
    exact ⟨clk, rfl, rfl⟩
  | false =>
    obtain ⟨i, notTick, effect⟩ := runEvent_effect_of_not_isTick tick (noReset_next noPor pending) h
    rcases effect.time_of_started clk with kept | ⟨isClkTick, _⟩
    · exact ⟨effect.keeps_clkRdy_set clk, kept⟩
    · exact absurd isClkTick notTick

theorem step_of_acceptsTick (accepted : acceptsTick s = true) :
    ∃ rest, step s = .next (advanceClock (takeEvent rest s)) := by
  rcases step_cases s with ⟨idle, _⟩ | ⟨ev, rest, pending, run⟩
  · exact absurd accepted (Bool.eq_false_iff.mp (acceptsTick_of_idle idle))
  · obtain ⟨⟨running, clk, en⟩, tick⟩ := (acceptsTick_iff pending).mp accepted
    exact ⟨rest, run.trans ((runEvent_of_isTick tick _).trans (exec_clkTick_of_enabled running clk en))⟩

/-- One step advances a started clock by one tick period if it accepts a tick, else by none. -/
theorem step_advances {k : Nat} (h : step s = .next t) (clk : s.clkRdy = true) (bound : s.frac < s.params.tickDen)
    (noPor : noReset (k + 1) s) : AdvancedBy (acceptsTick s).toNat s t := by
  cases accepted : acceptsTick s with
  | true =>
    obtain ⟨rest, tick⟩ := step_of_acceptsTick accepted
    cases tick.symm.trans h
    exact .of_tick clk rest
  | false =>
    obtain ⟨started, millis_eq, frac_eq⟩ := step_keeps_time h clk noPor accepted
    exact .of_kept bound (step_keeps_params h) started millis_eq frac_eq

end AcceptedTicks

/-- A run without a reset advances a started clock by as many tick periods as it accepts ticks. -/
theorem run_advances (k : Nat) {s t : State} (den : 0 < s.params.tickDen) (clk : s.clkRdy = true)
    (bound : s.frac < s.params.tickDen) (noPor : noReset k s) (h : Host.Core.run Sys2Proof.core k s = .next t) :
    AdvancedBy (acceptedTicks k s) s t := by
  induction k generalizing s with
  | zero =>
    cases h
    exact .of_kept bound rfl clk rfl rfl
  | succ k ih =>
    obtain ⟨u, first, tail⟩ := step_of_run_succ h
    have stepped := step_advances first clk bound noPor
    have ran := ih (stepped.params_eq ▸ den) stepped.started (stepped.params_eq ▸ stepped.frac_lt den)
      (noReset_of_step noPor first) tail
    exact acceptedTicks_succ k first ▸ stepped.trans ran

/-- Settles O43: the run advances the clock by its accepted ticks; from MILLIS = FRAC = 0 the quotient and the remainder of
n TICK_NUM by TICK_DEN are all that is left. -/
theorem clockCountsExactly : Obligations.ClockCountsExactly := by
  intro k s t den clk bound noPor h
  have advanced := run_advances k den clk bound noPor h
  refine ⟨by rw [advanced.millis_eq, add_sub_cancel_left], advanced.frac_eq, fun millis_zero frac_zero => ?_⟩
  have millis_eq := advanced.millis_eq
  have frac_eq := advanced.frac_eq
  rw [millis_zero, frac_zero, Nat.zero_add, BitVec.zero_add] at millis_eq
  rw [frac_zero, Nat.zero_add] at frac_eq
  exact ⟨millis_eq, frac_eq, frac_eq ▸ (Nat.div_add_mod _ _).symm, advanced.frac_lt den⟩

end Sys2Proof.Machine
end

section
/-! SUPPORT. The state machine (41_state_machine.md): NEXT against its table, what the signals and the elapsed time decide, the
states that NEXT reaches, and what that says of a POLL, of every step and of a run from an idle state. -/

namespace Sys2Proof.Machine

open Sys2Proof.Safety

/-! ## The table, row by row -/

/-- The rows of the table for one state, in the table's order. -/
def rowsOf (s : CycleState) : List TableRow := transitionTable.filter (·.source = s)

/-- What a row answers by itself: its next state, if its guard holds. -/
def TableRow.answer (c : Params) (e : Millis) (st sp : Bool) (r : TableRow) : Option CycleState :=
  if r.guard.holds c e st sp then some (r.target.resolve c sp) else none

section RowAnswers

variable {c : Params} {s : CycleState} {e : Millis} {st sp : Bool}

theorem firstMatch_eq_findSome? (rows : List TableRow) :
    firstMatch c s e st sp rows = (rows.filter (·.source = s)).findSome? (TableRow.answer c e st sp) := by
  induction rows with
  | nil => rfl
  | cons r rows ih =>
    by_cases source : r.source = s
    · by_cases holds : r.guard.holds c e st sp = true <;>
        simp [firstMatch, TableRow.answer, source, holds, ih]
    · simp [firstMatch, source, ih]

theorem nextByTable_eq_findSome? : nextByTable c s e st sp = (rowsOf s).findSome? (TableRow.answer c e st sp) :=
  firstMatch_eq_findSome? transitionTable

/-! The five shapes a state's rows can have, each with the form in which NEXT writes it. -/

theorem findSome?_answer_dwell (d : DurName) (n : Target) :
    [⟨s, .dwell d, n⟩].findSome? (TableRow.answer c e st sp) = dwellExit c e d (n.resolve c sp) := by
  cases h : dwellReached e (c.dur d) <;> simp [TableRow.answer, Guard.holds, dwellExit, h]

theorem findSome?_answer_start (n : CycleState) :
    [⟨s, .start, .to n⟩].findSome? (TableRow.answer c e st sp) = if st then some n else none := by
  cases st <;> rfl

theorem findSome?_answer_notStart_dwell (m : CycleState) (d : DurName) (n : Target) :
    [⟨s, .notStart, .to m⟩, ⟨s, .dwell d, n⟩].findSome? (TableRow.answer c e st sp) =
      if !st then some m else dwellExit c e d (n.resolve c sp) := by
  cases st
  · rfl
  · exact findSome?_answer_dwell d n

theorem findSome?_answer_stop_dwell (m : CycleState) (d : DurName) (n : Target) :
    [⟨s, .stop, .to m⟩, ⟨s, .dwell d, n⟩].findSome? (TableRow.answer c e st sp) =
      if sp then some m else dwellExit c e d (n.resolve c sp) := by
  cases sp
  · exact findSome?_answer_dwell d n
  · rfl

theorem findSome?_answer_stopOrDwell (d : DurName) (n : CycleState) :
    [⟨s, .stopOrDwell d, .to n⟩].findSome? (TableRow.answer c e st sp) =
      if sp || dwellReached e (c.dur d) then some n else none := by
  cases h : sp || dwellReached e (c.dur d) <;> simp [TableRow.answer, Guard.holds, Target.resolve, h]

/-- A state's rows answer as its equation in NEXT does. -/
theorem findSome?_rowsOf (c : Params) (s : CycleState) (e : Millis) (st sp : Bool) :
    (rowsOf s).findSome? (TableRow.answer c e st sp) = nextState c s e st sp := by
  cases s with
  | initialIdling | idling => exact findSome?_answer_start _
  | initialLocking | locking => exact findSome?_answer_notStart_dwell _ _ _
  | soakWaterPumping | soakWaterHeating | soakWaterHeatedMixing | soakWaterMixing => exact findSome?_answer_stop_dwell _ _ _
  | rinseWaterPumping => exact findSome?_answer_stopOrDwell _ _
  | _ => exact findSome?_answer_dwell _ _

end RowAnswers

/-- Settles O35: the table is its rows state by state, and these are the equations of NEXT. -/
theorem nextFollowsTransitionTable : Obligations.NextFollowsTransitionTable :=
  fun c s e st sp => (findSome?_rowsOf c s e st sp).symm.trans nextByTable_eq_findSome?.symm

section Guards

variable {c : Params} {s n : CycleState} {e e' : Millis} {st sp : Bool}

theorem mem_rowsOf_iff (r : TableRow) : r ∈ rowsOf s ↔ r ∈ transitionTable ∧ r.source = s := by
  simp [rowsOf]

/-- NEXT stays put where the guard of each of the state's rows fails. -/
theorem nextState_eq_none_iff :
    nextState c s e st sp = none ↔ ∀ r ∈ rowsOf s, r.guard.holds c e st sp = false := by
  simp [← findSome?_rowsOf, TableRow.answer]

/-- What NEXT answers is the target of one of the state's rows. -/
theorem exists_row_of_nextState (next : nextState c s e st sp = some n) :
    ∃ r ∈ rowsOf s, r.target.resolve c sp = n := by
  rw [← findSome?_rowsOf] at next
  obtain ⟨r, row, answer⟩ := List.exists_of_findSome?_eq_some next
  obtain ⟨_, target⟩ := Option.ite_none_right_eq_some.mp answer
  exact ⟨r, row, Option.some.inj target⟩

theorem exists_nextState_of_row {r : TableRow} (row : r ∈ rowsOf s) (holds : r.guard.holds c e st sp = true) :
    ∃ n, nextState c s e st sp = some n := by
  refine Option.ne_none_iff_exists'.mp fun stays => ?_
  exact Bool.eq_false_iff.mp (nextState_eq_none_iff.mp stays r row) holds

/-! ## Signals and elapsed time -/

theorem dwellReached_pred {d : Millis} (pos : 1 ≤ d.toNat) : dwellReached (d - 1) d = false := by
  rw [Bool.eq_false_iff, Ne, dwellReached_iff]
  bv_omega

/-- The four states that a stop aborts (41_state_machine.md rule R123). -/
def soakStates : List CycleState := [.soakWaterPumping, .soakWaterHeating, .soakWaterHeatedMixing, .soakWaterMixing]

theorem nextState_soak_of_stop (c : Params) (e : Millis) (st : Bool) (soak : s ∈ soakStates) :
    nextState c s e st true = some .soakWaterDraining := by
  simp only [soakStates, List.mem_cons, List.not_mem_nil, or_false] at soak
  rcases soak with rfl | rfl | rfl | rfl <;> rfl

theorem dwellExit_eq_ite (c : Params) (e : Millis) (d : DurName) (n : CycleState) :
    dwellExit c e d n = if (c.dur d).toNat ≤ e.toNat then some n else none := by
  simp only [dwellExit, dwellReached_iff]

theorem dwellReached_mono {d : Millis} (reached : dwellReached e' d = true) (le : e'.toNat ≤ e.toNat) :
    dwellReached e d = true := by
  rw [dwellReached_iff] at reached ⊢
  exact reached.trans le

/-- A guard that holds goes on holding as time passes: only dwell guards read the time. -/
theorem Guard.holds_mono {g : Guard} (holds : g.holds c e' st sp = true) (le : e'.toNat ≤ e.toNat) :
    g.holds c e st sp = true := by
  cases g with
  | dwell => exact dwellReached_mono holds le
  | start | notStart | stop => exact holds
  | stopOrDwell =>
    rcases Bool.or_eq_true_iff.mp holds with stop | reached
    · exact Bool.or_eq_true_iff.mpr (.inl stop)
    · exact Bool.or_eq_true_iff.mpr (.inr (dwellReached_mono reached le))

theorem nextState_none_of_le (stays : nextState c s e st sp = none) (le : e'.toNat ≤ e.toNat) :
    nextState c s e' st sp = none := by
  rw [nextState_eq_none_iff] at stays ⊢
  intro r row
  have fails := Bool.eq_false_iff.mp (stays r row)
  exact Bool.eq_false_iff.mpr fun holds => fails (Guard.holds_mono holds le)

/-- The duration that a guard waits for, if it can hold by elapsed time. -/
def Guard.dwellName : Guard → Option DurName
  | .dwell d => some d
  | .start => none
  | .notStart => none
  | .stop => none
  | .stopOrDwell d => some d

theorem Guard.holds_of_dwellName {g : Guard} {d : DurName} (waits : g.dwellName = some d)
    (reached : (c.dur d).toNat ≤ e.toNat) : g.holds c e st sp = true := by
  have reached := (dwellReached_iff e (c.dur d)).mpr reached
  cases g with
  | dwell =>
    cases waits
    exact reached
  | stopOrDwell =>
    cases waits
    exact Bool.or_eq_true_iff.mpr (.inr reached)
  | start | notStart | stop => cases waits

/-- Each state but the two idle ones has a row that elapsed time alone opens. -/
theorem exists_dwell_row (busy : s.isIdle = false) : ∃ r ∈ rowsOf s, r.guard.dwellName.isSome = true := by
  cases s with
  | initialIdling | idling => cases busy
  | _ => decide

theorem exists_nextState_of_busy (c : Params) (busy : s.isIdle = false) :
    ∃ d : Millis, ∀ (e : Millis) (st sp : Bool), d.toNat ≤ e.toNat → ∃ n, nextState c s e st sp = some n := by
  obtain ⟨r, row, waits⟩ := exists_dwell_row busy
  obtain ⟨d, waits⟩ := Option.isSome_iff_exists.mp waits
  exact ⟨c.dur d, fun _ _ _ reached => exists_nextState_of_row row (Guard.holds_of_dwellName waits reached)⟩

/-- An idle state waits for start and reads nothing else. -/
theorem nextState_idle_eq_none_iff (idle : s.isIdle = true) : nextState c s e st sp = none ↔ st = false := by
  rcases (isIdle_iff s).mp idle with rfl | rfl <;> simp [nextState]

end Guards

/-- Settles O36: the guard compares the numbers. -/
theorem dwellGuardIsInclusive : Obligations.DwellGuardIsInclusive := by
  refine fun e d => ⟨dwellReached_iff e d, (dwellReached_iff d d).mpr le_rfl, dwellReached_pred, ?_⟩
  rintro rfl
  exact (dwellReached_iff e 0#32).mpr (Nat.zero_le _)

/-- Settles O37: the signal stands before the dwell guard in NEXT, and a drain junction is one dwell exit. -/
theorem signalGuardsComeFirst : Obligations.SignalGuardsComeFirst :=
  fun c e st _ => ⟨fun _ => nextState_soak_of_stop c e st, rfl, rfl, dwellExit_eq_ite .., dwellExit_eq_ite ..⟩

/-- Settles O38: every guard of the table is monotone, so all of a state's rows fail earlier if they fail later. -/
theorem nextMonotoneInElapsed : Obligations.NextMonotoneInElapsed :=
  ⟨fun _ _ _ _ _ _ => nextState_none_of_le, fun _ _ _ => ⟨nofun, nofun⟩, fun _ _ _ => dwellReached_mono⟩

/-- Settles O39: a busy state has a row that waits for time alone, an idle state's one row waits for start. -/
theorem noStateIsTerminal : Obligations.NoStateIsTerminal := by
  refine fun c s sp => ⟨fun busy st _ => ?_, fun idle e st => ?_⟩
  · obtain ⟨d, leaves⟩ := exists_nextState_of_busy c busy
    exact ⟨d, fun e => leaves e st sp⟩
  · rw [← Option.ne_none_iff_exists', Ne, nextState_idle_eq_none_iff idle, Bool.not_eq_false]

/-! ## The states that NEXT reaches -/

/-- The states a target can name, for a setting of SOAK_HEAT_PATH. -/
def Target.options (heat : Bool) : Target → List CycleState
  | .to n => [n]
  | .ifStop n m => [n, m]
  | .ifHeat n m => [if heat then n else m]

theorem Target.resolve_mem_options (c : Params) (sp : Bool) (g : Target) :
    g.resolve c sp ∈ g.options c.soakHeatPath := by
  cases g with
  | ifStop n m => cases sp <;> simp [resolve, options]
  | _ => exact List.mem_singleton_self _

/-- The states that the table leads to from one state. -/
def successors (heat : Bool) (s : CycleState) : List CycleState := (rowsOf s).flatMap (·.target.options heat)

/-- No row of the table leads out of P. -/
abbrev TableKeeps (heat : Bool) (P : CycleState → Prop) : Prop :=
  ∀ r ∈ transitionTable, P r.source → ∀ n ∈ r.target.options heat, P n

section Reachability

variable {c : Params} {a b s n : CycleState} {e : Millis} {st sp : Bool} {P : CycleState → Prop}

theorem nextState_keeps (keeps : TableKeeps c.soakHeatPath P) (hs : P s) (next : nextState c s e st sp = some n) : P n := by
  obtain ⟨r, row, rfl⟩ := exists_row_of_nextState next
  obtain ⟨mem, rfl⟩ := (mem_rowsOf_iff r).mp row
  exact keeps r mem hs _ (r.target.resolve_mem_options c sp)

theorem reaches_keeps (keeps : TableKeeps c.soakHeatPath P) (ha : P a) (reached : Reaches c a b) : P b := by
  induction reached with
  | refl => exact ha
  | move _ _ _ _ next ih => exact nextState_keeps keeps ih next

/-- The states that only SOAK_HEAT_PATH = 1 opens (41_state_machine.md rule R157). -/
def heatPath : List CycleState := [.soakWaterHeating, .soakWaterHeatedMixing, .soakWaterMixing]

theorem tableKeeps_heatPath_closed : TableKeeps false (· ∉ heatPath) := by
  decide

theorem tableKeeps_setup_behind (heat : Bool) : TableKeeps heat (7 ≤ ·.code.toNat) := by
  cases heat <;> decide

/-- The longest time opens every dwell guard. -/
theorem dwellReached_allOnes (d : Millis) : dwellReached (BitVec.allOnes 32) d = true := by
  rw [dwellReached_iff, BitVec.toNat_allOnes]
  exact Nat.le_sub_one_of_lt d.isLt

theorem dwellExit_allOnes (c : Params) (d : DurName) (n : CycleState) :
    dwellExit c (BitVec.allOnes 32) d n = some n :=
  (dwellExit_eq_some_iff ..).mpr ⟨dwellReached_allOnes _, rfl⟩

/-- Every arrow of the table can be taken: after the longest time the two signals select among a state's targets. -/
theorem exists_nextState_of_mem_successors (next : n ∈ successors c.soakHeatPath s) :
    ∃ e st sp, nextState c s e st sp = some n := by
  suffices ∃ st sp, nextState c s (BitVec.allOnes 32) st sp = some n from ⟨_, this⟩
  cases s with
  | initialIdling | idling =>
    obtain rfl := List.mem_singleton.mp next
    exact ⟨true, false, rfl⟩
  | initialLocking | locking =>
    rcases List.mem_pair.mp next with rfl | rfl
    · exact ⟨false, false, rfl⟩
    · exact ⟨true, false, dwellExit_allOnes ..⟩
  | soakWaterPumping | soakWaterHeating | soakWaterHeatedMixing | soakWaterMixing =>
    rcases List.mem_pair.mp next with rfl | rfl
    · exact ⟨false, true, rfl⟩
    · exact ⟨false, false, dwellExit_allOnes ..⟩
  | soakWaterDraining | rinseWaterDraining =>
    rcases List.mem_pair.mp next with rfl | rfl
    · exact ⟨false, true, dwellExit_allOnes ..⟩
    · exact ⟨false, false, dwellExit_allOnes ..⟩
  | rinseWaterPumping =>
    obtain rfl := List.mem_singleton.mp next
    exact ⟨false, true, rfl⟩
  | _ =>
    obtain rfl := List.mem_singleton.mp next
    exact ⟨false, false, dwellExit_allOnes ..⟩

theorem reaches_of_isChain {rest : List CycleState} (reached : Reaches c a b)
    (chain : (b :: rest).IsChain (fun s n => n ∈ successors c.soakHeatPath s)) (mem : s ∈ b :: rest) :
    Reaches c a s := by
  induction rest generalizing b with
  | nil => exact List.mem_singleton.mp mem ▸ reached
  | cons n rest ih =>
    obtain ⟨arrow, tail⟩ := List.isChain_cons_cons.mp chain
    rcases List.mem_cons.mp mem with rfl | mem
    · exact reached
    · obtain ⟨e, st, sp, next⟩ := exists_nextState_of_mem_successors arrow
      exact ih (.move e st sp reached next) tail mem

/-- A walk from InitialDraining along the table's arrows through every state that the setting of SOAK_HEAT_PATH leaves open; it
takes the way round by InitialUnlocking. -/
def tour (heat : Bool) : List CycleState :=
  [.initialIdling, .initialLocking, .initialUnlocking, .initialIdling, .initialLocking, .initialSetupSeparatorOpening,
    .initialSetupWaterPumping, .initialSetupSeparatorClosing, .soakWaterPumping] ++
  (if heat then heatPath else []) ++
  [.soakWaterDraining, .rinseWaterPumping, .rinseWaterDraining, .separatorOpening, .separatorHolding, .separatorClosing,
    .blending, .pulpDraining, .setupSeparatorOpening, .setupWaterPumping, .setupSeparatorClosing, .idling, .locking,
    .unlocking]

theorem tour_isChain (heat : Bool) :
    (CycleState.initialDraining :: tour heat).IsChain (fun s n => n ∈ successors heat s) := by
  cases heat <;> decide

theorem mem_tour (heat : Bool) (s : CycleState) (opened : s ∉ heatPath ∨ heat = true) :
    s ∈ CycleState.initialDraining :: tour heat := by
  revert opened
  cases heat <;> cases s <;> decide

theorem reaches_of_open (opened : s ∉ heatPath ∨ c.soakHeatPath = true) : Reaches c .initialDraining s :=
  reaches_of_isChain .refl (tour_isChain c.soakHeatPath) (mem_tour c.soakHeatPath s opened)

theorem reaches_initialDraining_iff (closed : c.soakHeatPath = false) :
    Reaches c .initialDraining s ↔ s ∉ heatPath := by
  refine ⟨fun reached => ?_, fun opened => reaches_of_open (.inl opened)⟩
  exact reaches_keeps (closed ▸ tableKeeps_heatPath_closed) (by decide) reached

theorem not_mem_heatPath_iff (s : CycleState) :
    s ∉ heatPath ↔ s ≠ .soakWaterHeating ∧ s ≠ .soakWaterHeatedMixing ∧ s ≠ .soakWaterMixing := by
  simp [heatPath]

end Reachability

/-- Settles O40: the tour visits the open states, and no row of the table leads out of them or back into the setup. -/
theorem reachableStates : Obligations.ReachableStates :=
  fun c => ⟨fun closed s => (reaches_initialDraining_iff closed).trans (not_mem_heatPath_iff s),
    fun opened _ => reaches_of_open (.inr opened),
    fun _ _ => reaches_keeps (tableKeeps_setup_behind c.soakHeatPath)⟩

/-! ## A stop during soaking -/

theorem exists_soakState_of_code {k : StateCode} (soak : k = 7#5 ∨ k = 8#5 ∨ k = 9#5 ∨ k = 10#5) :
    ∃ cur ∈ soakStates, k = cur.code := by
  rcases soak with rfl | rfl | rfl | rfl
  · exact ⟨.soakWaterPumping, by decide, rfl⟩
  · exact ⟨.soakWaterHeating, by decide, rfl⟩
  · exact ⟨.soakWaterHeatedMixing, by decide, rfl⟩
  · exact ⟨.soakWaterMixing, by decide, rfl⟩

theorem latchStop_of_stop {stopPin stopping : Bool} (stop : stopPin = false ∨ stopping = true) :
    latchStop stopping (stopActive stopPin) = true := by
  rcases stop with rfl | rfl
  · exact latchStop_active stopping
  · exact latchStop_latched _

theorem pollNext_soak_of_stop {startPin stopPin : Bool} {cur : CycleState} {s : State} (soak : cur ∈ soakStates)
    (stop : stopPin = false ∨ s.stopping = true) : pollNext startPin stopPin cur s = some .soakWaterDraining := by
  rw [pollNext, latchStop_of_stop stop]
  exact nextState_soak_of_stop _ _ _ soak

/-- A POLL on a ready block takes the transition that NEXT answers for the state its code names. -/
theorem exec_poll_of_pollNext {a b : Bool} {cur n : CycleState} {s : State} (running : s.fault = 0#3)
    (clk : s.clkRdy = true) (ctl : s.ctlRdy = true) (code : s.state = cur.code) (next : pollNext a b cur s = some n) :
    exec (.poll a b) s = .next (moveTo cur n (latchStop s.stopping (stopActive b)) s) := by
  simp [exec, execPoll, pollStep, running, clk, ctl, code, next]

/-- Settles O46: the latch is taken before NEXT is asked, so the POLL moves to SoakWaterDraining, where the latch stays. -/
theorem stopAbortsSoakAtOnce : Obligations.StopAbortsSoakAtOnce := by
  intro a b s running clk ctl soak stop
  obtain ⟨cur, soaking, code⟩ := exists_soakState_of_code soak
  have next := pollNext_soak_of_stop (startPin := a) soaking stop
  exact ⟨_, exec_poll_of_pollNext running clk ctl code next, rfl, latchStop_of_stop stop, rfl, rfl⟩

/-! ## What every step keeps -/

theorem code_not_mem_heatPath_iff (s : CycleState) :
    s ∉ heatPath ↔ s.code ≠ 8#5 ∧ s.code ≠ 9#5 ∧ s.code ≠ 10#5 := by
  cases s <;> decide

section Steps

variable {i : Instr} {s t : State}

theorem Effect.keeps_noHeatInv (inv : noHeatInv s) (h : Effect s i t) : noHeatInv t := by
  cases h with
  | constructs => exact fun _ _ => (code_not_mem_heatPath_iff .initialDraining).mp (by decide)
  | moves _ _ cur n _ _ _ code next =>
    intro closed built
    have keeps : TableKeeps s.params.soakHeatPath (· ∉ heatPath) := closed ▸ tableKeeps_heatPath_closed
    have before : cur ∉ heatPath := (code_not_mem_heatPath_iff cur).mpr (code ▸ inv closed built)
    exact (code_not_mem_heatPath_iff n).mp (nextState_keeps keeps before next)
  | _ => exact inv

theorem Effect.keeps_setup_behind (h : Effect s i t) (built : s.ctlRdy = true) (behind : 7 ≤ s.state.toNat) :
    7 ≤ t.state.toNat := by
  cases h with
  | constructs _ _ ctl => exact absurd (ctl.symm.trans built) Bool.false_ne_true
  | moves _ _ cur n _ _ _ code next => exact nextState_keeps (tableKeeps_setup_behind _) (code ▸ behind) next
  | _ => exact behind

theorem step_keeps_setup_behind (h : step s = .next t) (noPor : noReset 1 s) (built : s.ctlRdy = true)
    (behind : 7 ≤ s.state.toNat) : 7 ≤ t.state.toNat := by
  rcases step_effect_cases h with ⟨_, rfl⟩ | ⟨rest, hp, _⟩ | ⟨_, rest, i, _, _, run⟩
  · exact behind
  · exact absurd rfl (noReset_next noPor hp)
  · exact run.keeps_setup_behind built behind

end Steps

/-- Settles O50: only a POLL that moves writes STATE on a built context, and no row of the table leads out of either set. -/
theorem stepKeepsHeatPathClosed : Obligations.StepKeepsHeatPathClosed :=
  ⟨fun _ _ => step_preserves (fun _ _ inv => inv) (fun s _ => powerOn_noHeatInv s.params s.draws s.pending)
      fun _ _ _ inv run => run.keeps_noHeatInv inv,
    fun _ _ => step_keeps_setup_behind⟩

/-! ## An idle state over a run -/

section IdleRun

variable {i : Instr} {s t : State}

/-- STATE, LAST and OUT of t are those of s, and so are CTL_RDY = 1 and the parameters, on which the next step depends. -/
structure HoldsIdle (s t : State) : Prop where
  built : t.ctlRdy = true
  params_eq : t.params = s.params
  state_eq : t.state = s.state
  last_eq : t.last = s.last
  out_eq : t.out = s.out

theorem HoldsIdle.refl (built : s.ctlRdy = true) : HoldsIdle s s := ⟨built, rfl, rfl, rfl, rfl⟩

theorem HoldsIdle.trans {u : State} (first : HoldsIdle s u) (second : HoldsIdle u t) : HoldsIdle s t where
  built := second.built
  params_eq := second.params_eq.trans first.params_eq
  state_eq := second.state_eq.trans first.state_eq
  last_eq := second.last_eq.trans first.last_eq
  out_eq := second.out_eq.trans first.out_eq

theorem holdsIdle_takeEvent (built : s.ctlRdy = true) (rest : List Event) : HoldsIdle s (takeEvent rest s) :=
  ⟨built, rfl, rfl, rfl, rfl⟩

theorem isIdle_of_code {cur : CycleState}
    (code : cur.code = CycleState.initialIdling.code ∨ cur.code = CycleState.idling.code) : cur.isIdle = true := by
  rw [CycleState.code_eq_iff, CycleState.code_eq_iff] at code
  exact (isIdle_iff cur).mpr code

/-- CTRL_INIT has no effect on a built context, and a POLL leaves an idle state only for start. -/
theorem Effect.holdsIdle (h : Effect s i t) (built : s.ctlRdy = true)
    (idle : s.state = CycleState.initialIdling.code ∨ s.state = CycleState.idling.code)
    (inactive : ∀ a b, i = .poll a b → starting s.params a = false) : HoldsIdle s t := by
  cases h with
  | constructs _ _ ctl => exact absurd (ctl.symm.trans built) Bool.false_ne_true
  | moves a b cur n _ _ _ code next =>
    have stays : pollNext a b cur s = none :=
      (nextState_idle_eq_none_iff (isIdle_of_code (code ▸ idle))).mpr (inactive a b rfl)
    cases stays.symm.trans next
  | _ => exact ⟨built, rfl, rfl, rfl, rfl⟩

theorem pollsWithStart_of_poll {c : Params} {w : Cmd} {a b : Bool} (decoded : decode w = .op (.poll a b)) :
    pollsWithStart c (.command w) = starting c a := by
  simp only [pollsWithStart, decoded]

theorem step_holdsIdle {k : Nat} (h : step s = .next t) (built : s.ctlRdy = true)
    (idle : s.state = CycleState.initialIdling.code ∨ s.state = CycleState.idling.code) (noPor : noReset (k + 1) s)
    (noStart : ∀ ev ∈ s.pending.take (k + 1), pollsWithStart s.params ev = false) : HoldsIdle s t := by
  rcases step_effects h with ⟨_, rfl⟩ | ⟨rest, hp, _⟩ | ⟨rest, _, tick⟩ | ⟨w, rest, i, hp, decoded, run⟩ |
    ⟨w, rest, _, _, ⟨rfl, _⟩ | ⟨rfl, _⟩⟩
  · exact .refl built
  · exact absurd rfl (noReset_next noPor hp)
  · exact (holdsIdle_takeEvent built rest).trans (tick.holdsIdle built idle nofun)
  · refine (holdsIdle_takeEvent built rest).trans (run.holdsIdle built idle fun a b poll => ?_)
    rw [takeEvent_params, ← pollsWithStart_of_poll (poll ▸ decoded)]
    exact noStart _ (by simp [hp])
  · exact ⟨built, rfl, rfl, rfl, rfl⟩
  · exact ⟨built, rfl, rfl, rfl, rfl⟩

theorem take_pending_subset_of_step (h : step s = .next t) (k : Nat) : t.pending.take k ⊆ s.pending.take (k + 1) := by
  have tail_eq : (s.pending.take (k + 1)).tail = s.pending.tail.take k := List.tail_take_eq_take_tail s.pending (k + 1)
  rw [step_pending h, ← tail_eq]
  exact List.tail_subset _

theorem run_holdsIdle (k : Nat) (built : s.ctlRdy = true)
    (idle : s.state = CycleState.initialIdling.code ∨ s.state = CycleState.idling.code) (noPor : noReset k s)
    (noStart : ∀ ev ∈ s.pending.take k, pollsWithStart s.params ev = false)
    (h : Host.Core.run Sys2Proof.core k s = .next t) : HoldsIdle s t := by
  induction k generalizing s with
  | zero =>
    cases h
    exact .refl built
  | succ k ih =>
    obtain ⟨u, first, tail⟩ := step_of_run_succ h
    have held := step_holdsIdle first built idle noPor noStart
    refine held.trans (ih held.built (held.state_eq ▸ idle) (noReset_of_step noPor first) (fun ev mem => ?_) tail)
    exact held.params_eq ▸ noStart ev (take_pending_subset_of_step first k mem)

end IdleRun

/-- Settles O53, by induction on the number of steps: each step holds the idle state and what the next one needs. -/
theorem idleHoldsWhileStartInactive : Obligations.IdleHoldsWhileStartInactive := by
  intro k s t built idle noPor noStart h
  have held := run_holdsIdle k built idle noPor noStart h
  exact ⟨held.state_eq, held.last_eq, held.out_eq⟩

end Sys2Proof.Machine
end

section
/-! SUPPORT. The Cycle Controller (42_controller.md): what CTRL_INIT (rule R161) and POLL (rules R162 to R170) answer in every
case of their checks, and the two forms of the outputs after a transition (rule R171). -/

namespace Sys2Proof.Machine

/-! ## CTRL_INIT -/

section Construction

variable {s : State}

theorem exec_ctrlInit_of_unstarted (running : s.fault = 0#3) (clk : s.clkRdy = false) :
    exec .ctrlInit s = .next (raiseFault .clockUninit s) := by
  simp [exec, execCtrlInit, running, clk]

theorem exec_ctrlInit_of_built (running : s.fault = 0#3) (clk : s.clkRdy = true) (ctl : s.ctlRdy = true) :
    exec .ctrlInit s = .next (raiseFault .ctrlReinit s) := by
  simp [exec, execCtrlInit, running, clk, ctl]

end Construction

/-- Settles O18, one equation of CTRL_INIT for each outcome of its checks. -/
theorem ctrlInitBuildsContext : Obligations.CtrlInitBuildsContext :=
  ⟨fun _ => exec_ctrlInit_of_unbuilt, fun _ => exec_ctrlInit_of_unstarted, fun _ => exec_ctrlInit_of_built,
    decode_encode .ctrlInit, fun _ _ => runCommand_of_stray_fixed (i := .ctrlInit) (by decide)⟩

/-! ## POLL, check by check -/

section Poll

variable {a b : Bool} {cur : CycleState} {s : State}

theorem exec_poll_of_unstarted (running : s.fault = 0#3) (clk : s.clkRdy = false) :
    exec (.poll a b) s = .next (raiseFault .clockUninit s) := by
  simp [exec, execPoll, running, clk]

theorem exec_poll_of_unbuilt (running : s.fault = 0#3) (clk : s.clkRdy = true) (ctl : s.ctlRdy = false) :
    exec (.poll a b) s = .next (raiseFault .ctrlUninit s) := by
  simp [exec, execPoll, running, clk, ctl]

theorem ofCode_eq_none_of_lt {k : StateCode} (illegal : 24 < k.toNat) : CycleState.ofCode k = none := by
  rcases CycleState.ofCode_cases k with ⟨_, unnamed⟩ | ⟨legal, _⟩
  · exact unnamed
  · omega

theorem exec_poll_of_invalid (running : s.fault = 0#3) (clk : s.clkRdy = true) (ctl : s.ctlRdy = true)
    (illegal : 24 < s.state.toNat) : exec (.poll a b) s = .next (raiseFault .invalidState s) := by
  simp [exec, execPoll, running, clk, ctl, ofCode_eq_none_of_lt illegal]

/-- A POLL on a ready block stays put where NEXT answers None for the state its code names. -/
theorem exec_poll_of_pollNext_none (running : s.fault = 0#3) (clk : s.clkRdy = true) (ctl : s.ctlRdy = true)
    (code : s.state = cur.code) (stays : pollNext a b cur s = none) :
    exec (.poll a b) s = .next (stayPut (latchStop s.stopping (stopActive b)) s) := by
  simp [exec, execPoll, pollStep, running, clk, ctl, code, stays]

end Poll

/-- Only CTRL_INIT and a POLL that moves write STATE, and each writes the code of a state. -/
theorem Effect.state_eq_or_le {i : Instr} {s t : State} (h : Effect s i t) :
    t.state = s.state ∨ t.state.toNat ≤ 24 := by
  cases h with
  | constructs => exact .inr (CycleState.code_le .initialDraining)
  | moves _ _ _ n => exact .inr n.code_le
  | _ => exact .inl rfl

/-- Settles O19: one equation of POLL for each check that fails, and STATE by cases on the effect of an operation. -/
theorem pollPreconditions : Obligations.PollPreconditions :=
  ⟨fun _ _ _ h => (exec_cases h).state_eq_or_le, fun _ _ _ running =>
    ⟨exec_poll_of_unstarted running, exec_poll_of_unbuilt running, exec_poll_of_invalid running⟩⟩

/-- The latch after a transition, with the idle states written out (42_controller.md rule R168). -/
theorem latchOnArrival_eq_ite (n : CycleState) (sp : Bool) :
    latchOnArrival n sp = if n = .idling ∨ n = .initialIdling then false else sp := by
  simp only [latchOnArrival, isIdle_iff, or_comm]

/-- Settles O21: NEXT is asked about the current inputs, and the writes of a POLL that moves are the listed ones. -/
theorem pollTakesTransition : Obligations.PollTakesTransition := by
  intro a b cur n s running clk ctl code next
  rw [exec_poll_of_pollNext running clk ctl code next, moveTo, latchOnArrival_eq_ite]
  rfl

/-- Settles O20: NEXT is asked about the current inputs, and staying put writes the latch and the response. -/
theorem pollStaysPut : Obligations.PollStaysPut :=
  fun _ _ _ _ running clk ctl code stays => exec_poll_of_pollNext_none running clk ctl code stays

/-! ## The two forms of the outputs -/

theorem transitionOutExplicit_of_symmetric {c : Params} (sym : c.symmetric = true) (old n : CycleState) :
    transitionOutExplicit c old n (c.entryMaskOf old) = c.entryMaskOf n := by
  rw [transitionOutExplicit, exitMaskOf_of_symmetric sym, BitVec.and_not_self]
  exact BitVec.zero_or

/-- Settles O47: on the old state's mask both forms leave the new state's mask alone. -/
theorem explicitFormGivesSameOutputs : Obligations.ExplicitFormGivesSameOutputs := by
  rintro c old n out sym rfl
  have xorForm := transitionOut_of_symmetric sym old n
  exact ⟨xorForm.trans (transitionOutExplicit_of_symmetric sym old n).symm, xorForm⟩

end Sys2Proof.Machine
end

section
/-! SUPPORT. Faults (60_exceptions.md): which fault each command word raises (rules R203 and R204), that a fault writes FAULT alone
(rule R201), what a halted block does (rules R202 and R207), and the run of an environment that does its duty
(70_reset_and_hazards.md rule R244). -/

namespace Sys2Proof.Machine

open Sys2Proof.Safety

/-! ## Fault outcomes -/

/-- Settles O11: an operation answers its body's state or has no effect, and every other step answers one as well. -/
theorem everyStepCompletes : Obligations.EveryStepCompletes :=
  step_completes

theorem judgedStep_of_fault {s t : State} {f : Fault} (h : step s = .next t) (raised : t.fault = f.code) :
    judgedStep s = .fault f := by
  simp [judgedStep, judge, h, raised]

/-- Settles O12: the judged step reads FAULT by its code, and every code but 0 is a fault's. -/
theorem haltedStateIsFaultOutcome : Obligations.HaltedStateIsFaultOutcome := by
  refine fun s t h => ⟨judgedStep_of_running h, fun f => judgedStep_of_fault h, fun halted => ?_⟩
  rcases Fault.ofCode_cases t.fault with ⟨running, _⟩ | ⟨_, f, _, raised⟩
  · exact absurd running halted
  · exact ⟨f, raised⟩

/-! ## Precision -/

/-- Only the effect that raises a fault takes FAULT from 0. -/
theorem Effect.eq_of_fault_raised {i : Instr} {s t : State} (h : Effect s i t) (running : s.fault = 0#3)
    (raised : t.fault ≠ 0#3) : t = { s with fault := t.fault, resp := none } := by
  cases h with
  | faults => rfl
  | _ => exact absurd running raised

/-- Settles O24, by cases on the effect of an operation; a rejected word raises its fault like one. -/
theorem faultsArePrecise : Obligations.FaultsArePrecise := by
  refine ⟨fun _ _ _ h => (exec_cases h).eq_of_fault_raised, fun w s t h running raised => ?_⟩
  rcases runCommand_cases w s with ⟨i, _, run⟩ | ⟨_, rejected⟩
  · exact (exec_cases (run.symm.trans h)).eq_of_fault_raised running raised
  · cases (rejected.trans (rejectReservedBits_of_running running)).symm.trans h
    rfl

/-! ## The checks in their order -/

/-- What the checks of an operation leave in FAULT from 0: its row of 60_exceptions.md rule R203, in the order of rule R204.
RESERVED_BITS is not among them, as the decoder raises it before there is an operation. -/
def checkedFault : Instr → State → FaultCode
  | .nop, _ => 0#3
  | .clkInit, s => if s.clkRdy then 2#3 else 0#3
  | .tickEn, s => if s.clkRdy then 0#3 else 1#3
  | .clkTick, _ => 0#3
  | .clkNow, s => if s.clkRdy then 0#3 else 1#3
  | .ctrlInit, s => if s.clkRdy = false then 1#3 else if s.ctlRdy then 4#3 else 0#3
  | .poll _ _, s =>
    if s.clkRdy = false then 1#3 else if s.ctlRdy = false then 3#3 else if 24 < s.state.toNat then 7#3 else 0#3
  | .reservedOp, _ => 5#3

@[simp] theorem checkedFault_takeEvent (i : Instr) (rest : List Event) (s : State) :
    checkedFault i (takeEvent rest s) = checkedFault i s := by
  cases i <;> rfl

/-- A tick never raises a fault (60_exceptions.md rule R208). -/
theorem Effect.tick_keeps_fault {s t : State} (h : Effect s .clkTick t) : t.fault = s.fault := by
  rw [h.tick_frame]

/-- An operation of a running block answers a state with the fault of its checks. -/
theorem exec_fault (i : Instr) {s : State} (running : s.fault = 0#3) :
    ∃ t, exec i s = .next t ∧ t.fault = checkedFault i s := by
  cases i with
  | nop => exact ⟨_, exec_nop s, running⟩
  | clkInit =>
    cases clk : s.clkRdy
    · exact ⟨_, exec_clkInit_of_unstarted running clk, by simp [checkedFault, clk, running]⟩
    · exact ⟨_, exec_clkInit_of_started running clk, by simp [checkedFault, clk, Fault.code]⟩
  | tickEn =>
    cases clk : s.clkRdy
    · exact ⟨_, exec_tickEn_of_unstarted running clk, by simp [checkedFault, clk, Fault.code]⟩
    · exact ⟨_, exec_tickEn_of_started running clk, by simp [checkedFault, clk, running]⟩
  | clkTick =>
    obtain ⟨t, tick⟩ := exec_completes .clkTick s
    exact ⟨t, tick, (exec_cases tick).tick_keeps_fault.trans running⟩
  | clkNow =>
    cases clk : s.clkRdy
    · exact ⟨_, exec_clkNow_of_unstarted running clk, by simp [checkedFault, clk, Fault.code]⟩
    · exact ⟨_, exec_clkNow_of_started running clk, by simp [checkedFault, clk, running]⟩
  | ctrlInit =>
    cases clk : s.clkRdy
    · exact ⟨_, exec_ctrlInit_of_unstarted running clk, by simp [checkedFault, clk, Fault.code]⟩
    cases ctl : s.ctlRdy
    · exact ⟨_, exec_ctrlInit_of_unbuilt running clk ctl, by simp [checkedFault, clk, ctl, running]⟩
    · exact ⟨_, exec_ctrlInit_of_built running clk ctl, by simp [checkedFault, clk, ctl, Fault.code]⟩
  | poll a b =>
    cases clk : s.clkRdy
    · exact ⟨_, exec_poll_of_unstarted running clk, by simp [checkedFault, clk, Fault.code]⟩
    cases ctl : s.ctlRdy
    · exact ⟨_, exec_poll_of_unbuilt running clk ctl, by simp [checkedFault, clk, ctl, Fault.code]⟩
    by_cases illegal : 24 < s.state.toNat
    · exact ⟨_, exec_poll_of_invalid running clk ctl illegal, by simp [checkedFault, clk, ctl, illegal, Fault.code]⟩
    · have none_applies : checkedFault (.poll a b) s = 0#3 := by simp [checkedFault, clk, ctl, illegal]
      rw [none_applies]
      rcases exec_poll_of_ready a b running clk ctl (Nat.le_of_not_lt illegal) with ⟨_, stays⟩ | ⟨_, _, _, moves⟩
      · exact ⟨_, stays, running⟩
      · exact ⟨_, moves, running⟩
  | reservedOp => exact ⟨_, exec_reservedOp_of_running running, rfl⟩

section Checks

variable {s t : State} {w : Cmd} {i : Instr} {rest : List Event}

theorem step_fault_of_command (pending : s.pending = .command w :: rest) (running : s.fault = 0#3)
    (h : step s = .next t) (decoded : decode w = .op i) : t.fault = checkedFault i s := by
  obtain ⟨u, run, fault_eq⟩ := exec_fault i (s := takeEvent rest s) running
  cases ((step_of_command pending decoded).trans run).symm.trans h
  rw [fault_eq, checkedFault_takeEvent]

/-- A word whose reserved bits are under a condition: the decode fault comes first. -/
theorem step_fault_of_decode_ite {accepted : Prop} [Decidable accepted] (pending : s.pending = .command w :: rest)
    (running : s.fault = 0#3) (h : step s = .next t)
    (decoded : decode w = if accepted then .op i else .reservedBits) :
    t.fault = if ¬ accepted then 6#3 else checkedFault i s := by
  by_cases ok : accepted
  · rw [if_pos ok] at decoded
    rw [if_neg (not_not.mpr ok), step_fault_of_command pending running h decoded]
  · rw [if_neg ok] at decoded
    have rejected := (step_of_rejected_command pending decoded).trans (rejectReservedBits_of_running running)
    cases rejected.symm.trans h
    rw [if_pos ok]
    rfl

end Checks

/-- Settles O23: the decoder's equation for the word's class, then the checks of its operation. -/
theorem faultsInCheckOrder : Obligations.FaultsInCheckOrder := by
  refine ⟨fun s t rest pending running h => ?_, fun s t w rest pending running h => ?_⟩
  · have tick : Effect (takeEvent rest s) .clkTick t := exec_cases ((step_of_tickStrobe pending).symm.trans h)
    exact tick.tick_keeps_fault.trans running
  · have accepted {i : Instr} := step_fault_of_command (i := i) pending running h
    have fixed {i : Instr} (mem : i ∈ fixedInstrs) (op : w &&& 7#8 = encode i) :=
      step_fault_of_decode_ite pending running h (decode_of_op_fixed mem op)
    refine ⟨fun op => accepted (decode_of_op_nop op), fun op => accepted (decode_of_op_reserved op),
      fixed (i := .clkInit) (by decide), fixed (i := .tickEn) (by decide), fixed (i := .clkTick) (by decide),
      fixed (i := .clkNow) (by decide), fixed (i := .ctrlInit) (by decide), fun op => ?_⟩
    exact step_fault_of_decode_ite pending running h (decode_of_op_poll op)

/-! ## The halted block -/

/-- A halted block takes an event without an effect, unless it is the por input. -/
theorem step_of_halted {s : State} {ev : Event} {rest : List Event} (halted : s.fault ≠ 0#3)
    (pending : s.pending = ev :: rest) (noPor : ev ≠ .powerOnReset) : step s = .next (silent (takeEvent rest s)) := by
  obtain ⟨t, h⟩ := step_completes s
  rcases step_effect_cases h with ⟨idle, _⟩ | ⟨_, reset, _⟩ | ⟨_, _, _, taken, _, run⟩
  · cases pending.symm.trans idle
  · cases pending.symm.trans reset
    exact absurd rfl noPor
  · cases pending.symm.trans taken
    rw [h, run.eq_silent_of_halted halted]

/-- Settles O26: operations and steps of a halted block are silent. -/
theorem haltedBlockIgnoresOperations : Obligations.HaltedBlockIgnoresOperations :=
  fun _ halted => ⟨fun i => exec_of_halted i halted, fun _ _ => step_of_halted halted⟩

/-- From s the block has taken the next k events, as far as they go, and ignored them. -/
structure Ignored (k : Nat) (s t : State) : Prop where
  frame : t = { s with resp := t.resp, pending := s.pending.drop k, draws := t.draws }
  quiet : s.resp = none ∨ 0 < k ∧ s.pending ≠ [] → t.resp = none

section Ignored

variable {k : Nat} {s t u : State}

theorem Ignored.refl (s : State) : Ignored 0 s s where
  frame := rfl
  quiet start := start.resolve_right fun ⟨pos, _⟩ => Nat.lt_irrefl 0 pos

theorem Ignored.fault_eq (h : Ignored k s t) : t.fault = s.fault := by
  rw [h.frame]

theorem Ignored.cons (first : Ignored 1 s u) (later : Ignored k u t) : Ignored (k + 1) s t where
  frame := by
    rw [later.frame, first.frame]
    simp
  quiet start := later.quiet (.inl (first.quiet (start.imp_right fun ⟨_, events⟩ => ⟨Nat.one_pos, events⟩)))

theorem step_ignored (halted : s.fault ≠ 0#3) (noPor : noReset (k + 1) s) : ∃ u, step s = .next u ∧ Ignored 1 s u := by
  rcases step_cases s with ⟨idle, stays⟩ | ⟨ev, rest, pending, _⟩
  · have none_taken : s.pending.drop 1 = s.pending := by simp [idle]
    exact ⟨s, stays, by rw [none_taken], by simp [idle]⟩
  · exact ⟨_, step_of_halted halted pending (noReset_next noPor pending), by simp [pending, silent, takeEvent],
      fun _ => silent_resp _⟩

end Ignored

theorem run_ignored (k : Nat) {s : State} (halted : s.fault ≠ 0#3) (noPor : noReset k s) :
    ∃ t, Host.Core.run Sys2Proof.core k s = .next t ∧ Ignored k s t := by
  induction k generalizing s with
  | zero => exact ⟨s, rfl, .refl s⟩
  | succ k ih =>
    obtain ⟨u, step_eq, first⟩ := step_ignored halted noPor
    obtain ⟨t, run, later⟩ := ih (first.fault_eq ▸ halted) (noReset_of_step noPor step_eq)
    exact ⟨t, (run_succ k step_eq).trans run, first.cons later⟩

/-- Settles O27, by induction on the number of steps: each step ignores the next event, if there is one. -/
theorem haltedRunKeepsEveryRegister : Obligations.HaltedRunKeepsEveryRegister := by
  intro k s halted noPor
  obtain ⟨t, run, ignored⟩ := run_ignored k halted noPor
  exact ⟨t, run, ignored.frame, fun pos events => ignored.quiet (.inr ⟨pos, events⟩)⟩

/-! ## The run of a dutiful environment -/

/-- An invariant under which every judged step goes on carries a whole run of the judged machine. -/
theorem judgedRun_keeps {P : State → Prop} (keeps : ∀ s, P s → ∃ t, judgedStep s = .next t ∧ P t) (k : Nat) {s : State}
    (hs : P s) : ∃ t : State, Host.Core.run judgedCore k s = .next t ∧ P t := by
  induction k generalizing s with
  | zero => exact ⟨s, rfl, hs⟩
  | succ k ih =>
    obtain ⟨u, first, hu⟩ := keeps s hs
    obtain ⟨t, run, ht⟩ := ih hu
    have first : judgedCore.step s = .next u := first
    refine ⟨t, (coreRun_succ judgedCore k s).trans ?_, ht⟩
    rw [first]
    exact run

theorem fault_eq_zero_of_dutyInv {s : State} (inv : dutyInv s) : s.fault = 0#3 := by
  obtain ⟨p, inv⟩ := inv
  exact ((phaseInv_iff p s).mp inv).1.running

/-- Settles O54: the duty's invariant holds at power-on and every judged step keeps it. -/
theorem dutifulRunNeverFaults : Obligations.DutifulRunNeverFaults := by
  intro c n k evs _ duty
  obtain ⟨_, start⟩ := powerOnMeetsDutyInvariant c n evs duty
  obtain ⟨t, run, inv⟩ := judgedRun_keeps stepKeepsDutyInvariant k start
  exact ⟨t, run, fault_eq_zero_of_dutyInv inv⟩

end Sys2Proof.Machine
end

section
/-! SUPPORT. Reset and hazards (70_reset_and_hazards.md): the gap between two POLLs that no dwell guard misses (rule R253), and
the boot sequence in both orders (rules R241 and R242). -/

namespace Sys2Proof.Machine

/-! ## The poll gap -/

theorem elapsed_add_right (now last g : Millis) : elapsed (now + g) last = elapsed now last + g :=
  add_sub_right_comm now g last

/-- Below one wrap period the elapsed time grows with the clock. -/
theorem toNat_elapsed_add {now last : Millis} {gap : Nat} (noWrap : (elapsed now last).toNat + gap < 2 ^ 32) :
    (elapsed (now + BitVec.ofNat 32 gap) last).toNat = (elapsed now last).toNat + gap := by
  rw [elapsed_add_right, BitVec.toNat_add, BitVec.toNat_ofNat, Nat.add_mod_mod, Nat.mod_eq_of_lt noWrap]

theorem dwellReached_eq_false_iff (e d : Millis) : dwellReached e d = false ↔ e.toNat < d.toNat := by
  rw [← Bool.not_eq_true, dwellReached_iff, Nat.not_le]

/-- Settles O42: e < D and gap ≤ 2^32 - D add up to less than 2^32. -/
theorem pollGapBound : Obligations.PollGapBound := by
  intro now last d gap waiting short
  have below : (elapsed now last).toNat < d.toNat := (dwellReached_eq_false_iff _ d).mp waiting
  have bounded := d.isLt
  have sum : (elapsed (now + BitVec.ofNat 32 gap) last).toNat = (elapsed now last).toNat + gap :=
    toNat_elapsed_add (by omega)
  exact ⟨sum, by rw [dwellReached_iff, sum]⟩

/-! ## The boot words, each as a step -/

/-- Two runs in a row are one run. -/
theorem run_add (m k : Nat) {s t : State} (h : Host.Core.run Sys2Proof.core m s = .next t) :
    Host.Core.run Sys2Proof.core (m + k) s = Host.Core.run Sys2Proof.core k t := by
  induction m generalizing s with
  | zero =>
    cases h
    rw [Nat.zero_add]
  | succ m ih =>
    obtain ⟨u, first, tail⟩ := step_of_run_succ h
    rw [Nat.succ_add, run_succ _ first, ih tail]

section BootWords

variable {s : State} {rest : List Event}

theorem step_clkInit_of_unstarted (h : s.pending = .command 0x01#8 :: rest) (running : s.fault = 0#3)
    (clk : s.clkRdy = false) : step s = .next (startClock (takeEvent rest s)) :=
  (step_of_command h (decode_encode .clkInit)).trans (exec_clkInit_of_unstarted running clk)

theorem step_tickEn_of_started (h : s.pending = .command 0x02#8 :: rest) (running : s.fault = 0#3)
    (clk : s.clkRdy = true) : step s = .next (enableTick (takeEvent rest s)) :=
  (step_of_command h (decode_encode .tickEn)).trans (exec_tickEn_of_started running clk)

theorem step_ctrlInit_of_unbuilt (h : s.pending = .command 0x05#8 :: rest) (running : s.fault = 0#3)
    (clk : s.clkRdy = true) (ctl : s.ctlRdy = false) : step s = .next (construct (takeEvent rest s)) :=
  (step_of_command h (decode_encode .ctrlInit)).trans (exec_ctrlInit_of_unbuilt running clk ctl)

end BootWords

/-! ## A stretch of accepted ticks -/

/-- The block has come from s to t by n accepted ticks, and the events in rest are still to come. -/
structure Ticked (n : Nat) (rest : List Event) (s t : State) : Prop extends AdvancedBy n s t where
  frame : t = { s with millis := t.millis, frac := t.frac, resp := t.resp, pending := rest, draws := t.draws }

section Ticked

variable {n : Nat} {evs rest : List Event} {s t u : State}

theorem Ticked.refl (pending : s.pending = rest) (clk : s.clkRdy = true) (bound : s.frac < s.params.tickDen) :
    Ticked 0 rest s s where
  toAdvancedBy := .of_kept bound rfl clk rfl rfl
  frame := by rw [← pending]

theorem Ticked.of_tick (clk : s.clkRdy = true) (evs : List Event) :
    Ticked 1 evs s (advanceClock (takeEvent evs s)) where
  toAdvancedBy := .of_tick clk evs
  frame := rfl

theorem Ticked.cons (first : Ticked 1 evs s u) (later : Ticked n rest u t) : Ticked (n + 1) rest s t where
  toAdvancedBy := Nat.add_comm 1 n ▸ first.toAdvancedBy.trans later.toAdvancedBy
  frame := by rw [later.frame, first.frame]

/-- A running block with the tick enabled accepts every tick strobe. -/
theorem run_tickStrobes (j : Nat) (pending : s.pending = List.replicate j .tickStrobe ++ rest)
    (running : s.fault = 0#3) (clk : s.clkRdy = true) (en : s.tickEn = true) (bound : s.frac < s.params.tickDen) :
    ∃ t : State, Host.Core.run Sys2Proof.core j s = .next t ∧ Ticked j rest s t := by
  induction j generalizing s with
  | zero => exact ⟨s, rfl, .refl pending clk bound⟩
  | succ j ih =>
    have tick := step_tickStrobe_of_enabled pending running clk en
    have first := Ticked.of_tick clk (List.replicate j .tickStrobe ++ rest)
    have den : 0 < s.params.tickDen := Nat.zero_lt_of_lt bound
    obtain ⟨t, run, later⟩ := ih (s := advanceClock (takeEvent _ s)) rfl running clk en (first.frac_lt den)
    exact ⟨t, (run_succ j tick).trans run, first.cons later⟩

end Ticked

/-! ## The boot sequence -/

/-- On dark outputs the entry action leaves the mask of InitialDraining alone. -/
theorem construct_out_of_dark {s : State} (dark : s.out = 0#11) : (construct s).out = s.params.entryMask.get 0 := by
  rw [construct_out, dark]
  exact BitVec.zero_xor

/-- The power-on state with its clock started, the draws left where no word has written yet. -/
def clockStarted (c : Params) (n : Nat) (evs : List Event) : State :=
  startClock (takeEvent evs (State.powerOn c n evs))

theorem step_powerOn_clkInit (c : Params) (n : Nat) (evs : List Event) :
    step (State.powerOn c n (.command 0x01#8 :: evs)) = .next (clockStarted c n evs) :=
  step_clkInit_of_unstarted rfl rfl rfl

/-- The state that the ticks of the first order find: after CLK_INIT and TICK_EN. -/
def tickEnabled (c : Params) (n : Nat) (evs : List Event) : State :=
  enableTick (takeEvent evs (clockStarted c n evs))

/-- The state that TICK_EN finds in the other order: after CLK_INIT and CTRL_INIT. -/
def contextBuilt (c : Params) (n : Nat) (evs : List Event) : State :=
  construct (takeEvent evs (clockStarted c n evs))

theorem run_clkInit_tickEn (c : Params) (n : Nat) (evs : List Event) :
    Host.Core.run Sys2Proof.core 2 (State.powerOn c n (.command 0x01#8 :: .command 0x02#8 :: evs)) =
      .next (tickEnabled c n evs) :=
  run_two (step_powerOn_clkInit c n _) (step_tickEn_of_started rfl rfl rfl)

theorem run_clkInit_ctrlInit (c : Params) (n : Nat) (evs : List Event) :
    Host.Core.run Sys2Proof.core 2 (State.powerOn c n (.command 0x01#8 :: .command 0x05#8 :: evs)) =
      .next (contextBuilt c n evs) :=
  run_two (step_powerOn_clkInit c n _) (step_ctrlInit_of_unbuilt rfl rfl rfl rfl)

theorem run_boot_ticks {c : Params} (wf : c.wf = true) (n j : Nat) (evs : List Event) :
    ∃ u : State, Host.Core.run Sys2Proof.core (2 + j)
        (State.powerOn c n (.command 0x01#8 :: .command 0x02#8 :: (List.replicate j .tickStrobe ++ evs))) = .next u ∧
      Ticked j evs (tickEnabled c n (List.replicate j .tickStrobe ++ evs)) u := by
  have den : 0 < c.tickDen := by simp_all [Params.wf]
  have enabled := run_clkInit_tickEn c n (List.replicate j .tickStrobe ++ evs)
  obtain ⟨u, ticks, ticked⟩ := run_tickStrobes j (s := tickEnabled c n (List.replicate j .tickStrobe ++ evs))
    rfl rfl rfl rfl den
  exact ⟨u, (run_add 2 j enabled).trans ticks, ticked⟩

/-- Settles O52. In the first order CTRL_INIT finds what the ticks leave alone: FAULT, CTL_RDY and OUT as at power-on; in the
other MILLIS is still 0 when CTRL_INIT copies it. -/
theorem bootSequenceCompletes : Obligations.BootSequenceCompletes := by
  refine ⟨fun c n j rest wf => ?_, fun c n rest => ?_⟩
  · obtain ⟨u, ticks, ticked⟩ := run_boot_ticks wf n j (.command 0x05#8 :: rest)
    have running : u.fault = 0#3 := congrArg State.fault ticked.frame
    have enabled : u.tickEn = true := congrArg State.tickEn ticked.frame
    have unbuilt : u.ctlRdy = false := congrArg State.ctlRdy ticked.frame
    have dark : u.out = 0#11 := congrArg State.out ticked.frame
    have pending : u.pending = .command 0x05#8 :: rest := congrArg State.pending ticked.frame
    have params_eq : u.params = c := ticked.params_eq
    have millis_eq : u.millis = BitVec.ofNat 32 (j * c.tickNum / c.tickDen) := by
      simpa [tickEnabled, clockStarted] using ticked.millis_eq
    have built := step_ctrlInit_of_unbuilt pending running ticked.started unbuilt
    have run := (run_add (2 + j) 1 ticks).trans (run_one built)
    have out_eq : (construct (takeEvent rest u)).out = c.entryMask.get 0 := by
      rw [construct_out_of_dark (s := takeEvent rest u) dark, takeEvent_params, params_eq]
    have steps : 2 + j + 1 = 3 + j := by omega
    refine ⟨construct (takeEvent rest u), steps ▸ run, running, ticked.started, enabled, rfl, rfl, rfl, millis_eq, rfl,
      out_eq, rfl⟩
  · have built := run_clkInit_ctrlInit c n (.command 0x02#8 :: rest)
    have enabled := step_tickEn_of_started (s := contextBuilt c n (.command 0x02#8 :: rest)) rfl rfl rfl
    exact ⟨_, (run_add 2 1 built).trans (run_one enabled), rfl, rfl, rfl, rfl, rfl, rfl, rfl,
      construct_out_of_dark rfl, rfl⟩

end Sys2Proof.Machine
end

section
/-! SUPPORT. The two ends of a run: the step that finds no event to take (20_memory.md section 4), and the state right after
power-on (10_state.md rule R41). -/

namespace Sys2Proof.Machine

/-! ## No event to come -/

theorem step_of_pending_nil {s : State} (idle : s.pending = []) : step s = .next s := by
  rcases step_cases s with ⟨_, unchanged⟩ | ⟨_, _, pending, _⟩
  · exact unchanged
  · exact absurd (idle.symm.trans pending) (List.cons_ne_nil _ _).symm

/-- Settles O8: of what a step can do, only the first case has an empty list of events. -/
theorem noEventNoEffect : Obligations.NoEventNoEffect :=
  fun _ => step_of_pending_nil

/-! ## Power-on -/

/-- One opaque mask table stands for both (10_state.md rule R37), so no value of it is needed. -/
theorem config_params_symmetric : Config.params.symmetric = true := by
  simp [Params.symmetric, Config.params]

/-- The normative setting (41_state_machine.md rule R137). -/
theorem config_params_soakHeatPath : Config.params.soakHeatPath = false := rfl

theorem reset_params : State.reset.params = Config.params := powerOn_params _ _ _

/-- Settles O10: the registers and the model's own fields are those of any power-on, and the parameters are
`Config.params`. -/
theorem resetHoldsPowerOnValues : Obligations.ResetHoldsPowerOnValues := by
  unfold Obligations.ResetHoldsPowerOnValues
  rw [reset_params]
  exact ⟨powerOn_tickEn _ _ _, powerOn_clkRdy _ _ _, powerOn_ctlRdy _ _ _, powerOn_out _ _ _, powerOn_fault _ _ _,
    powerOn_pending _ _ _, powerOn_resp _ _ _, powerOn_draws _ _ _,
    config_params_wf, config_params_symmetric, config_params_soakHeatPath⟩

end Sys2Proof.Machine
end
